-- ==== Sys2Proof/Word.lean ====
section
/-! DEFINITION. The words of the gate: bytes, addresses and counters; the two links and a pair of values held one for
each link; a frame as it stands on a link; what the RESET input and the supply do. -/

namespace Sys2Proof

/-- One byte of a frame, or one byte lane of a beat. -/
abbrev Byte := BitVec 8

/-- An upstream byte address (00_scope.md, Addresses and sizes). -/
abbrev UpAddr := BitVec 32

/-- A module byte address within one slot (00_scope.md, Addresses and sizes). -/
abbrev ModAddr := BitVec 24

/-- An event counter: 32 bits, saturating (00_scope.md, Counters). -/
abbrev Counter := BitVec 32

/-- The two upstream links, link 0 and link 1 (00_scope.md). -/
inductive Link where
  | l0
  | l1
  deriving DecidableEq, Repr

/-- The number of a link, as replies and details carry it. -/
def Link.num : Link → Byte
  | .l0 => 0
  | .l1 => 1

/-- The other link. -/
def Link.other : Link → Link
  | .l0 => .l1
  | .l1 => .l0

/-- Both links, link 0 first. -/
def Link.all : List Link := [.l0, .l1]

/-- A pair of values, one for each link. -/
structure PerLink (α : Type) where
  l0 : α
  l1 : α
  deriving DecidableEq, Repr

/-- The value of one link. -/
def PerLink.get {α : Type} (p : PerLink α) : Link → α
  | .l0 => p.l0
  | .l1 => p.l1

/-- The pair with the value of one link replaced. -/
def PerLink.set {α : Type} (p : PerLink α) (n : Link) (x : α) : PerLink α :=
  match n with
  | .l0 => { p with l0 := x }
  | .l1 => { p with l1 := x }

/-- The pair that holds one value for both links. -/
def PerLink.both {α : Type} (x : α) : PerLink α := ⟨x, x⟩

/-- The vector with the entry at one index put through a function. -/
def updAt {α : Type} {k : Nat} (v : Vector α k) (i : Fin k) (f : α → α) : Vector α k :=
  v.set i (f v[i])

/-- A frame as it stands on a link between its start delimiter and the last byte of its CRC (R200). The body length
byte is the number of body bytes, since it fixes where the frame ends (R185). -/
structure RawFrame where
  kind : Byte
  body : List Byte
  crc : BitVec 16
  deriving DecidableEq, Repr

/-- Why a link port drops an inbound frame (R144, R186, R192). -/
inductive DropReason where
  | crcError
  | unknownKind
  | lengthMismatch
  | creditOverrun
  deriving DecidableEq, Repr

/-- What reaches the gate as FULL_RESET: power-on, or the new level of the RESET input (R1). Only power-on and a change
of the level from deasserted to asserted are the event; the other levels are recorded (log 2). -/
inductive ResetCause where
  | powerOn
  | resetInput (asserted : Bool)
  deriving DecidableEq, Repr

end Sys2Proof
end

