-- ==== Sys2Proof/Config.lean ====
section
/-! DEFINITION. What is fixed for every TG216 (identity, capacities, intervals, the frame and command codes) and the
free values: what the manual leaves open, as constants without a body. -/

namespace Sys2Proof.Config

/-- Identity values (00_scope.md, Identity values; R173, R188). -/
def vendorCode : BitVec 16 := 0x53A1
def partCode : BitVec 16 := 0x0216
def revision : Byte := 0x03

/-- Capacities reported by IDENTIFY (R173). -/
def windowIndices : Byte := 32
def ticketCount : Byte := 24
def slotCount : Byte := 16

/-- Posted-write credits of a link (R188, R194). -/
def credits : Nat := 16

/-- Ticketed entries a work queue may hold (R70). -/
def ticketedBound : Nat := 16

/-- Frames in the outbound list at which a port withholds taking (R185). -/
def outboundPause : Nat := 32

/-- Microseconds in one unit of lease duration, 100 ms (R163). -/
def leaseUnit : Nat := 100000

/-- The greatest consecutive-timeout count (R126, R132). -/
def maxConsecutive : Nat := 7

/-- Kind codes of inbound frames (R200). -/
def kindHello : Byte := 0x01
def kindRead : Byte := 0x02
def kindWrite : Byte := 0x03
def kindWriteConfirmed : Byte := 0x04
def kindClaim : Byte := 0x05
def kindCancel : Byte := 0x06
def kindMgmt : Byte := 0x07

/-- Kind codes of outbound frames (R200). -/
def kindWelcome : Byte := 0x81
def kindResult : Byte := 0x82
def kindCredit : Byte := 0x83
def kindNotice : Byte := 0x84
def kindMgmtReply : Byte := 0x85

/-- The start delimiter of a frame (R200). -/
def delimiter : Byte := 0x5C

/-- Command codes (R203). -/
def codeIdentify : Byte := 0x01
def codeLeaseTake : Byte := 0x02
def codeLeaseRenew : Byte := 0x03
def codeLeaseDrop : Byte := 0x04
def codeWindowStage : Byte := 0x10
def codeWindowUnstage : Byte := 0x11
def codeWindowCommit : Byte := 0x12
def codeWindowLock : Byte := 0x13
def codeWindowRead : Byte := 0x14
def codeSetQuota : Byte := 0x20
def codeSetDiscard : Byte := 0x21
def codeTicketSummary : Byte := 0x22
def codeSetBpTimeout : Byte := 0x30
def codeSlotProbe : Byte := 0x31
def codeSlotFence : Byte := 0x32
def codeSetFaultLimit : Byte := 0x33
def codeSlotStatus : Byte := 0x34
def codeNoticeEnable : Byte := 0x40
def codeNoticeAck : Byte := 0x41
def codeNoticeRead : Byte := 0x42
def codeCountersRead : Byte := 0x50
def codeCountersClear : Byte := 0x51
def codeGateReset : Byte := 0x52

/-- The codes of the 23 commands (R203); every other code is unknown. -/
def commandCodes : List Byte :=
  [codeIdentify, codeLeaseTake, codeLeaseRenew, codeLeaseDrop,
   codeWindowStage, codeWindowUnstage, codeWindowCommit, codeWindowLock, codeWindowRead,
   codeSetQuota, codeSetDiscard, codeTicketSummary,
   codeSetBpTimeout, codeSlotProbe, codeSlotFence, codeSetFaultLimit, codeSlotStatus,
   codeNoticeEnable, codeNoticeAck, codeNoticeRead,
   codeCountersRead, codeCountersClear, codeGateReset]

/-- Free value: whether the receiver can still hold a frame that must wait, drawn afresh at each such arrival (R185
leaves the receiver's room to the physical layer; log 7). -/
opaque receiverHolds : Nat → Bool

/-- Free value: which of the open events of the gate comes next when no command is queued, drawn afresh at each such
step (R181, R199 and the races of every chapter give no order; log 5). -/
opaque eventChoice : Nat → Nat

end Sys2Proof.Config
end

