-- ==== Sys2Proof/Syntax.lean ====
section
/-! DEFINITION. The commands of the gate: one constructor for each row of spec/opcode_table.json. `n` is the link that
carries a frame; `ops` are the operand bytes of a MGMT frame, after its tag and command code, laid out as R203 gives. -/

namespace Sys2Proof

inductive Instr where
  /-- FULL_RESET (R1): power-on, or the new level of the RESET input. -/
  | fullReset (cause : ResetCause)
  /-- LOSS_OF_SIGNAL (R191): the new level of LOSn. -/
  | lossOfSignal (n : Link) (asserted : Bool)
  /-- HELLO (R189). -/
  | hello (n : Link)
  /-- FRAME_DROP (R186): a frame that fails the CRC, kind or shape check, as it stands on the link. -/
  | frameDrop (n : Link) (f : RawFrame)
  /-- READ (R62): tag, upstream address, length (R201). -/
  | read (n : Link) (tag : Byte) (addr : UpAddr) (len : Byte)
  /-- WRITE_CONFIRMED (R74): tag, upstream address, length, data (R201). -/
  | writeConfirmed (n : Link) (tag : Byte) (addr : UpAddr) (len : Byte) (data : List Byte)
  /-- WRITE (R77): upstream address, length, data (R201). -/
  | write (n : Link) (addr : UpAddr) (len : Byte) (data : List Byte)
  /-- CLAIM (R45): tag, ticket number, generation (R201). -/
  | claim (n : Link) (tag number gen : Byte)
  /-- CANCEL (R47): tag, ticket number, generation (R201). -/
  | cancel (n : Link) (tag number gen : Byte)
  /-- MGMT_UNKNOWN_COMMAND (R159): a code that names no command. -/
  | mgmtUnknownCommand (n : Link) (tag code : Byte) (ops : List Byte)
  /-- LEASE_TAKE (R163, R164): duration. -/
  | leaseTake (n : Link) (tag : Byte) (ops : List Byte)
  /-- LEASE_RENEW (R165): no operand. -/
  | leaseRenew (n : Link) (tag : Byte) (ops : List Byte)
  /-- LEASE_DROP (R167): no operand. -/
  | leaseDrop (n : Link) (tag : Byte) (ops : List Byte)
  /-- IDENTIFY (R173): no operand. -/
  | identify (n : Link) (tag : Byte) (ops : List Byte)
  /-- COUNTERS_READ (R175): group type, number. -/
  | countersRead (n : Link) (tag : Byte) (ops : List Byte)
  /-- COUNTERS_CLEAR (R176): group type, number. -/
  | countersClear (n : Link) (tag : Byte) (ops : List Byte)
  /-- GATE_RESET (R178): no operand. -/
  | gateReset (n : Link) (tag : Byte) (ops : List Byte)
  /-- WINDOW_STAGE (R12, R13): index, window record (17 bytes, R204). -/
  | windowStage (n : Link) (tag : Byte) (ops : List Byte)
  /-- WINDOW_UNSTAGE with the clear flag (R15): index, 01h. -/
  | windowUnstageClear (n : Link) (tag : Byte) (ops : List Byte)
  /-- WINDOW_UNSTAGE without the clear flag (R16): index, 00h; and every WINDOW_UNSTAGE whose operands are malformed
  (log 16). -/
  | windowUnstageWithdraw (n : Link) (tag : Byte) (ops : List Byte)
  /-- WINDOW_COMMIT (R17 to R21): revoke flag. -/
  | windowCommit (n : Link) (tag : Byte) (ops : List Byte)
  /-- WINDOW_LOCK (R23): index, level. -/
  | windowLock (n : Link) (tag : Byte) (ops : List Byte)
  /-- WINDOW_READ (R25): index, selector. -/
  | windowRead (n : Link) (tag : Byte) (ops : List Byte)
  /-- SET_QUOTA (R35): link, n. -/
  | setQuota (n : Link) (tag : Byte) (ops : List Byte)
  /-- SET_DISCARD (R49): selection. -/
  | setDiscard (n : Link) (tag : Byte) (ops : List Byte)
  /-- TICKET_SUMMARY (R53): no operand. -/
  | ticketSummary (n : Link) (tag : Byte) (ops : List Byte)
  /-- SET_BP_TIMEOUT (R114): selection. -/
  | setBpTimeout (n : Link) (tag : Byte) (ops : List Byte)
  /-- SLOT_PROBE (R128): slot. -/
  | slotProbe (n : Link) (tag : Byte) (ops : List Byte)
  /-- SLOT_FENCE (R135): slot. -/
  | slotFence (n : Link) (tag : Byte) (ops : List Byte)
  /-- SET_FAULT_LIMIT (R134): n. -/
  | setFaultLimit (n : Link) (tag : Byte) (ops : List Byte)
  /-- SLOT_STATUS (R140): slot. -/
  | slotStatus (n : Link) (tag : Byte) (ops : List Byte)
  /-- NOTICE_ENABLE (R147): set of kinds. -/
  | noticeEnable (n : Link) (tag : Byte) (ops : List Byte)
  /-- NOTICE_ACK (R151): kind. -/
  | noticeAck (n : Link) (tag : Byte) (ops : List Byte)
  /-- NOTICE_READ (R152): kind. -/
  | noticeRead (n : Link) (tag : Byte) (ops : List Byte)
  /-- HOLD_EXPIRY (R39) of one ticket. -/
  | holdExpiry (t : Fin 24)
  /-- DISCARD_EXPIRY (R50) of one ticket. -/
  | discardExpiry (t : Fin 24)
  /-- LEASE_EXPIRY (R168). -/
  | leaseExpiry
  /-- PHASE_TIMER_EXPIRY (R113). -/
  | phaseTimerExpiry
  /-- SELECT_ACCEPT (R106). -/
  | selectAccept
  /-- SELECT_REJECT (R106). -/
  | selectReject
  /-- SELECT_WAIT (R107). -/
  | selectWait
  /-- WRITE_BEAT_ACCEPT (R109). -/
  | writeBeatAccept
  /-- WRITE_BEAT_ERROR (R109). -/
  | writeBeatError
  /-- READ_BEAT_DATA (R111): the four byte lanes, lane i in bits 8i + 7 to 8i, and the parity bit of lane i in bit i. A
  beat of width 1 or 2 uses the lower lanes alone (R108). -/
  | readBeatData (lanes : BitVec 32) (parity : BitVec 4)
  /-- READ_BEAT_ERROR (R111). -/
  | readBeatError
  /-- ALERT_ASSERTION (R138): the new level of one alert input. -/
  | alertAssertion (slot : Fin 16) (asserted : Bool)
  /-- ARBITER_GRANT (R90). -/
  | arbiterGrant
  /-- HEAD_DISPOSAL (R86) of one work queue. -/
  | headDisposal (n : Link)
  /-- OUTBOUND_FRAME_SENT (R195) on one link. -/
  | outboundFrameSent (n : Link)
  /-- FRAME_WAITS_AT_RECEIVER (R185): the frame as it stands on the link. -/
  | frameWaitsAtReceiver (n : Link) (f : RawFrame)
  /-- TRANSMISSION_BEGINS (R195) on one link. -/
  | transmissionBegins (n : Link)
  deriving DecidableEq, Repr

end Sys2Proof
end

