-- ==== Sys2Proof/Decode.lean ====
section
/-! DEFINITION. Frames: byte order, the CRC, the checks a link port makes on an inbound frame, the command a frame stands
for, the frame of a command, and the frames found in a stream of received bytes (chapters 9 and 10). Also the host's
`decodeTableWord`: no row of the opcode table gives bits, so it answers none. -/

namespace Sys2Proof

/-- The bytes of a 16-bit value, most significant first (R200). -/
def be16 (x : BitVec 16) : List Byte := [x.extractLsb' 8 8, x.extractLsb' 0 8]

/-- The bytes of a 24-bit value, most significant first (R200). -/
def be24 (x : BitVec 24) : List Byte := [x.extractLsb' 16 8, x.extractLsb' 8 8, x.extractLsb' 0 8]

/-- The bytes of a 32-bit value, most significant first (R200). -/
def be32 (x : BitVec 32) : List Byte :=
  [x.extractLsb' 24 8, x.extractLsb' 16 8, x.extractLsb' 8 8, x.extractLsb' 0 8]

/-- The 24-bit value of three bytes, most significant first (R200). -/
def ofBe24 (b2 b1 b0 : Byte) : BitVec 24 := b2 ++ b1 ++ b0

/-- The 32-bit value of four bytes, most significant first (R200). -/
def ofBe32 (b3 b2 b1 b0 : Byte) : BitVec 32 := b3 ++ b2 ++ b1 ++ b0

/-- One bit into the CRC register: polynomial 1021h, not reflected (R200). -/
def crcBit (crc : BitVec 16) (bit : Bool) : BitVec 16 :=
  if crc.msb != bit then (crc <<< 1) ^^^ 0x1021#16 else crc <<< 1

/-- One byte into the CRC register, most significant bit first (R200). -/
def crcByte (crc : BitVec 16) (b : Byte) : BitVec 16 :=
  [b.getLsbD 7, b.getLsbD 6, b.getLsbD 5, b.getLsbD 4, b.getLsbD 3, b.getLsbD 2, b.getLsbD 1, b.getLsbD 0].foldl
    crcBit crc

/-- The CRC-16 of a sequence of bytes: initial value FFFFh, not inverted at the end (R200). -/
def crc16 (bs : List Byte) : BitVec 16 := bs.foldl crcByte 0xFFFF#16

/-- The CRC of a frame: over the kind, the body length and the body (R200). -/
def frameCrc (kind : Byte) (body : List Byte) : BitVec 16 :=
  crc16 (kind :: BitVec.ofNat 8 body.length :: body)

/-- A frame of a kind and a body, with the CRC it must carry (R200). -/
def RawFrame.seal (kind : Byte) (body : List Byte) : RawFrame := ⟨kind, body, frameCrc kind body⟩

/-- The bytes of a frame on the link, start delimiter first (R200). -/
def RawFrame.wire (f : RawFrame) : List Byte :=
  Config.delimiter :: f.kind :: BitVec.ofNat 8 f.body.length :: f.body ++ be16 f.crc

/-- The MGMT row of a command code (R203). WINDOW_UNSTAGE has two rows, told apart by its clear flag (log 16). -/
def mgmtInstr (n : Link) (tag code : Byte) (ops : List Byte) : Instr :=
  if code = Config.codeIdentify then .identify n tag ops
  else if code = Config.codeLeaseTake then .leaseTake n tag ops
  else if code = Config.codeLeaseRenew then .leaseRenew n tag ops
  else if code = Config.codeLeaseDrop then .leaseDrop n tag ops
  else if code = Config.codeWindowStage then .windowStage n tag ops
  else if code = Config.codeWindowUnstage then
    if ops.length = 2 ∧ ops[1]? = some 0x01#8 then .windowUnstageClear n tag ops
    else .windowUnstageWithdraw n tag ops
  else if code = Config.codeWindowCommit then .windowCommit n tag ops
  else if code = Config.codeWindowLock then .windowLock n tag ops
  else if code = Config.codeWindowRead then .windowRead n tag ops
  else if code = Config.codeSetQuota then .setQuota n tag ops
  else if code = Config.codeSetDiscard then .setDiscard n tag ops
  else if code = Config.codeTicketSummary then .ticketSummary n tag ops
  else if code = Config.codeSetBpTimeout then .setBpTimeout n tag ops
  else if code = Config.codeSlotProbe then .slotProbe n tag ops
  else if code = Config.codeSlotFence then .slotFence n tag ops
  else if code = Config.codeSetFaultLimit then .setFaultLimit n tag ops
  else if code = Config.codeSlotStatus then .slotStatus n tag ops
  else if code = Config.codeNoticeEnable then .noticeEnable n tag ops
  else if code = Config.codeNoticeAck then .noticeAck n tag ops
  else if code = Config.codeNoticeRead then .noticeRead n tag ops
  else if code = Config.codeCountersRead then .countersRead n tag ops
  else if code = Config.codeCountersClear then .countersClear n tag ops
  else if code = Config.codeGateReset then .gateReset n tag ops
  else .mgmtUnknownCommand n tag code ops

/-- Whether a kind code names an inbound frame kind (R200). -/
def inboundKind (k : Byte) : Bool :=
  k = Config.kindHello ∨ k = Config.kindRead ∨ k = Config.kindWrite ∨ k = Config.kindWriteConfirmed
    ∨ k = Config.kindClaim ∨ k = Config.kindCancel ∨ k = Config.kindMgmt

/-- The command of a frame body of one kind; none when the body is not of the length that its kind requires (R186,
R200, R201, R203). -/
def decodeBody (n : Link) (kind : Byte) (body : List Byte) : Option Instr :=
  if kind = Config.kindHello then
    match body with
    | [] => some (.hello n)
    | _ => none
  else if kind = Config.kindRead then
    match body with
    | [t, a3, a2, a1, a0, l] => some (.read n t (ofBe32 a3 a2 a1 a0) l)
    | _ => none
  else if kind = Config.kindWrite then
    match body with
    | a3 :: a2 :: a1 :: a0 :: l :: data =>
      if data.length = l.toNat then some (.write n (ofBe32 a3 a2 a1 a0) l data) else none
    | _ => none
  else if kind = Config.kindWriteConfirmed then
    match body with
    | t :: a3 :: a2 :: a1 :: a0 :: l :: data =>
      if data.length = l.toNat then some (.writeConfirmed n t (ofBe32 a3 a2 a1 a0) l data) else none
    | _ => none
  else if kind = Config.kindClaim then
    match body with
    | [t, num, gen] => some (.claim n t num gen)
    | _ => none
  else if kind = Config.kindCancel then
    match body with
    | [t, num, gen] => some (.cancel n t num gen)
    | _ => none
  else if kind = Config.kindMgmt then
    match body with
    | t :: code :: ops => some (mgmtInstr n t code ops)
    | _ => none
  else none

/-- The first check of R186 that a frame fails, in the order CRC, kind, shape; none for a sound frame. The direction of
the link does not matter to the checks, so they are made as for link 0. -/
def frameFault (f : RawFrame) : Option DropReason :=
  if f.crc ≠ frameCrc f.kind f.body then some .crcError
  else if inboundKind f.kind = false then some .unknownKind
  else if decodeBody .l0 f.kind f.body = none then some .lengthMismatch
  else none

/-- The command that a frame taken on a link is: the row of its kind, or FRAME_DROP when a check of R186 fails. Total:
every frame is one command. -/
def decodeFrame (n : Link) (f : RawFrame) : Instr :=
  match frameFault f with
  | some _ => .frameDrop n f
  | none => (decodeBody n f.kind f.body).getD (.frameDrop n f)

/-- The MGMT frame of a command (R203). -/
def mgmtFrame (tag code : Byte) (ops : List Byte) : RawFrame :=
  RawFrame.seal Config.kindMgmt (tag :: code :: ops)

/-- The body of a WRITE (R201). -/
def writeBody (addr : UpAddr) (len : Byte) (data : List Byte) : List Byte :=
  be32 addr ++ len :: data

/-- The frame that carries a command; none for a command that is no inbound frame (R200, R201, R203). -/
def encodeFrame : Instr → Option RawFrame
  | .hello _ => some (.seal Config.kindHello [])
  | .frameDrop _ f => some f
  | .read _ t a l => some (.seal Config.kindRead (t :: (be32 a ++ [l])))
  | .writeConfirmed _ t a l d => some (.seal Config.kindWriteConfirmed (t :: writeBody a l d))
  | .write _ a l d => some (.seal Config.kindWrite (writeBody a l d))
  | .claim _ t num gen => some (.seal Config.kindClaim [t, num, gen])
  | .cancel _ t num gen => some (.seal Config.kindCancel [t, num, gen])
  | .mgmtUnknownCommand _ t code ops => some (mgmtFrame t code ops)
  | .leaseTake _ t ops => some (mgmtFrame t Config.codeLeaseTake ops)
  | .leaseRenew _ t ops => some (mgmtFrame t Config.codeLeaseRenew ops)
  | .leaseDrop _ t ops => some (mgmtFrame t Config.codeLeaseDrop ops)
  | .identify _ t ops => some (mgmtFrame t Config.codeIdentify ops)
  | .countersRead _ t ops => some (mgmtFrame t Config.codeCountersRead ops)
  | .countersClear _ t ops => some (mgmtFrame t Config.codeCountersClear ops)
  | .gateReset _ t ops => some (mgmtFrame t Config.codeGateReset ops)
  | .windowStage _ t ops => some (mgmtFrame t Config.codeWindowStage ops)
  | .windowUnstageClear _ t ops => some (mgmtFrame t Config.codeWindowUnstage ops)
  | .windowUnstageWithdraw _ t ops => some (mgmtFrame t Config.codeWindowUnstage ops)
  | .windowCommit _ t ops => some (mgmtFrame t Config.codeWindowCommit ops)
  | .windowLock _ t ops => some (mgmtFrame t Config.codeWindowLock ops)
  | .windowRead _ t ops => some (mgmtFrame t Config.codeWindowRead ops)
  | .setQuota _ t ops => some (mgmtFrame t Config.codeSetQuota ops)
  | .setDiscard _ t ops => some (mgmtFrame t Config.codeSetDiscard ops)
  | .ticketSummary _ t ops => some (mgmtFrame t Config.codeTicketSummary ops)
  | .setBpTimeout _ t ops => some (mgmtFrame t Config.codeSetBpTimeout ops)
  | .slotProbe _ t ops => some (mgmtFrame t Config.codeSlotProbe ops)
  | .slotFence _ t ops => some (mgmtFrame t Config.codeSlotFence ops)
  | .setFaultLimit _ t ops => some (mgmtFrame t Config.codeSetFaultLimit ops)
  | .slotStatus _ t ops => some (mgmtFrame t Config.codeSlotStatus ops)
  | .noticeEnable _ t ops => some (mgmtFrame t Config.codeNoticeEnable ops)
  | .noticeAck _ t ops => some (mgmtFrame t Config.codeNoticeAck ops)
  | .noticeRead _ t ops => some (mgmtFrame t Config.codeNoticeRead ops)
  | .fullReset _ => none
  | .lossOfSignal _ _ => none
  | .holdExpiry _ => none
  | .discardExpiry _ => none
  | .leaseExpiry => none
  | .phaseTimerExpiry => none
  | .selectAccept => none
  | .selectReject => none
  | .selectWait => none
  | .writeBeatAccept => none
  | .writeBeatError => none
  | .readBeatData _ _ => none
  | .readBeatError => none
  | .alertAssertion _ _ => none
  | .arbiterGrant => none
  | .headDisposal _ => none
  | .outboundFrameSent _ => none
  | .frameWaitsAtReceiver _ _ => none
  | .transmissionBegins _ => none

/-- The frames found in received bytes: a frame begins at a start delimiter, its body length fixes where it ends, bytes
outside a frame are ignored, and a frame whose bytes are still arriving is not yet one (R185, R200). The first argument
bounds the number of bytes looked at. -/
def scanFrames : Nat → List Byte → List RawFrame
  | 0, _ => []
  | _, [] => []
  | fuel + 1, b :: rest =>
    if b = Config.delimiter then
      match rest with
      | kind :: len :: tail =>
        match tail.drop len.toNat with
        | c1 :: c0 :: after => ⟨kind, tail.take len.toNat, c1 ++ c0⟩ :: scanFrames fuel after
        | _ => []
      | _ => []
    else scanFrames fuel rest

/-- The whole frames in a stream of received bytes (R185, R200). -/
def receivedFrames (bs : List Byte) : List RawFrame := scanFrames bs.length bs

/-- The command that a word spells by the bits of the opcode table. No row of spec/opcode_table.json gives bits, so no
word spells one. -/
def decodeTableWord (_nbits _w : Nat) : Option Instr := none

end Sys2Proof
end

