-- ==== Sys2Proof/WellFormed.lean ====
section
/-! DEFINITION. When a command is well formed: the frame it stands for is one that its row names and that a link can
carry. A command of a row without such a side condition is always well formed. -/

namespace Sys2Proof

/-- Operand bytes that a MGMT frame can carry: the body is at most 255 bytes, tag and code included (R200, R203). -/
def operandsFit (ops : List Byte) : Bool := ops.length ≤ 253

/-- Whether the operands of a WINDOW_UNSTAGE are an index and a set clear flag (R203; log 16). -/
def hasClearFlag (ops : List Byte) : Bool := ops.length = 2 ∧ ops[1]? = some 0x01#8

def Instr.wellFormed : Instr → Bool
  | .frameDrop _ f => f.body.length ≤ 255 ∧ (frameFault f).isSome
  | .writeConfirmed _ _ _ l d => d.length = l.toNat ∧ d.length ≤ 249
  | .write _ _ l d => d.length = l.toNat ∧ d.length ≤ 250
  | .mgmtUnknownCommand _ _ code ops => operandsFit ops ∧ code ∉ Config.commandCodes
  | .leaseTake _ _ ops => operandsFit ops
  | .leaseRenew _ _ ops => operandsFit ops
  | .leaseDrop _ _ ops => operandsFit ops
  | .identify _ _ ops => operandsFit ops
  | .countersRead _ _ ops => operandsFit ops
  | .countersClear _ _ ops => operandsFit ops
  | .gateReset _ _ ops => operandsFit ops
  | .windowStage _ _ ops => operandsFit ops
  | .windowUnstageClear _ _ ops => hasClearFlag ops
  | .windowUnstageWithdraw _ _ ops => operandsFit ops ∧ hasClearFlag ops = false
  | .windowCommit _ _ ops => operandsFit ops
  | .windowLock _ _ ops => operandsFit ops
  | .windowRead _ _ ops => operandsFit ops
  | .setQuota _ _ ops => operandsFit ops
  | .setDiscard _ _ ops => operandsFit ops
  | .ticketSummary _ _ ops => operandsFit ops
  | .setBpTimeout _ _ ops => operandsFit ops
  | .slotProbe _ _ ops => operandsFit ops
  | .slotFence _ _ ops => operandsFit ops
  | .setFaultLimit _ _ ops => operandsFit ops
  | .slotStatus _ _ ops => operandsFit ops
  | .noticeEnable _ _ ops => operandsFit ops
  | .noticeAck _ _ ops => operandsFit ops
  | .noticeRead _ _ ops => operandsFit ops
  | .frameWaitsAtReceiver _ f => f.body.length ≤ 255
  | .fullReset _ => true
  | .lossOfSignal _ _ => true
  | .hello _ => true
  | .read _ _ _ _ => true
  | .claim _ _ _ _ => true
  | .cancel _ _ _ _ => true
  | .holdExpiry _ => true
  | .discardExpiry _ => true
  | .leaseExpiry => true
  | .phaseTimerExpiry => true
  | .selectAccept => true
  | .selectReject => true
  | .selectWait => true
  | .writeBeatAccept => true
  | .writeBeatError => true
  | .readBeatData _ _ => true
  | .readBeatError => true
  | .alertAssertion _ _ => true
  | .arbiterGrant => true
  | .headDisposal _ => true
  | .outboundFrameSent _ => true
  | .transmissionBegins _ => true

end Sys2Proof
end

