-- ==== Sys2Proof/Machine/State.lean ====
section
/-! DEFINITION. The state of the gate as plain data, block by block, and its value after full reset. -/

namespace Sys2Proof.Machine

/-! ### Window table (chapter 1) -/

/-- Rights of one link in a window (R3, R5). -/
inductive Rights where
  | none
  | read
  | write
  | readWrite
  deriving DecidableEq, Repr

/-- Width of a beat: 1, 2 or 4 bytes (R3, R108). -/
inductive Width where
  | w1
  | w2
  | w4
  deriving DecidableEq, Repr

/-- A window record (R3). `hold` is the hold limit in microseconds when the hold is present. -/
structure WindowRecord where
  base : UpAddr
  limit : UpAddr
  slot : Fin 16
  modBase : ModAddr
  rights : PerLink Rights
  width : Width
  hold : Option Nat
  chaining : Bool
  deriving DecidableEq, Repr

/-- Staging cell of an index (R2): NONE, SET with a record, or CLEAR. -/
inductive StagingCell where
  | none
  | set (r : WindowRecord)
  | clear
  deriving DecidableEq, Repr

/-- Lock level of an index (R2): OPEN, NARROW or FROZEN, in rising order. -/
inductive LockLevel where
  | unlocked
  | narrow
  | frozen
  deriving DecidableEq, Repr

/-! ### Ticket table (chapter 2) -/

/-- Reasons of a FAIL outcome (R202). -/
inductive FailReason where
  | noWindow
  | badLength
  | denied
  | badAlign
  | offline
  | fenced
  | timeout
  | rejected
  | dataError
  | revoked
  | flushed
  | noTicket
  deriving DecidableEq, Repr

/-- Operation of a ticket (R30). -/
inductive TicketOp where
  | read
  | confirmedWrite
  deriving DecidableEq, Repr

/-- What a ticket holds in every state but FREE (R30): owner link, request tag, operation, resolved target (slot, module
address, width, length) and upstream address. -/
structure Request where
  owner : Link
  tag : Byte
  op : TicketOp
  slot : Fin 16
  addr : ModAddr
  width : Width
  len : Nat
  upstream : UpAddr
  deriving DecidableEq, Repr

/-- Reply mode of a ticket (R30). A DIRECT ticket holds the point in time at which its hold timer runs out (log 3). -/
inductive ReplyMode where
  | direct (expiry : Nat)
  | deferred
  deriving DecidableEq, Repr

/-- Result of an operation (R30, R42). -/
inductive Result where
  | data (bytes : List Byte)
  | done
  | fail (r : FailReason)
  deriving DecidableEq, Repr

/-- State of a ticket with the fields present in it (R30). The write data is empty for a READ. -/
inductive TicketState where
  | free
  | queued (r : Request) (data : List Byte) (m : ReplyMode)
  | issued (r : Request) (data : List Byte) (m : ReplyMode)
  | ready (r : Request) (res : Result) (deadline : Option Nat)
  | detached (r : Request)
  deriving DecidableEq, Repr

/-- A ticket record (R30). -/
structure Ticket where
  gen : BitVec 4
  st : TicketState
  deriving DecidableEq, Repr

/-- The discard selection (R49). -/
inductive DiscardSelection where
  | disabled
  | ms2
  | ms16
  | ms128
  deriving DecidableEq, Repr

/-! ### Work queues and arbiter (chapter 4) -/

/-- A posted entry (R83). -/
structure PostedEntry where
  upstream : UpAddr
  slot : Fin 16
  addr : ModAddr
  width : Width
  len : Nat
  data : List Byte
  chaining : Bool
  deriving DecidableEq, Repr

/-- A work entry (R83). -/
inductive WorkEntry where
  | posted (e : PostedEntry)
  | ticketed (t : Fin 24)
  deriving DecidableEq, Repr

/-- The sources the arbiter serves, and what its pointer names (R89). -/
inductive Source where
  | wq0
  | wq1
  | prq
  deriving DecidableEq, Repr

/-! ### Backplane controller (chapter 5) -/

/-- The timeout selection (R103). -/
inductive TimeoutSelection where
  | us16
  | us128
  | us1024
  deriving DecidableEq, Repr

/-- The operation in progress (R103, R105): a posted write with its owner link and entry; a READ or CONFIRMED_WRITE with
the ticket number, the fields of its ticket record and its write data; or the probe of a slot. -/
inductive Operation where
  | postedWrite (owner : Link) (e : PostedEntry)
  | ticketed (t : Fin 24) (r : Request) (data : List Byte)
  | probe (slot : Fin 16)
  deriving DecidableEq, Repr

/-- State of the backplane controller with the fields present in it (R103): the operation, the run row of a posted write,
the point in time at which the phase timer runs out (log 3), and in TRANSFER the beat position and the read data kept so
far (R111). -/
inductive BpcState where
  | idle
  | addressing (op : Operation) (row : Option ModAddr) (timer : Nat)
  | transfer (op : Operation) (row : Option ModAddr) (timer : Nat) (beat : Nat) (readData : List Byte)
  deriving DecidableEq, Repr

/-- Operation code presented with a select (R105). -/
inductive SelectCode where
  | read
  | write
  | probe
  deriving DecidableEq, Repr

/-- What the gate presents on the shared lines (R105, R108, R109, R111, R116; log 17): nothing; the address phase of a
select; a write beat, as its lanes in use with their parity bits, with the beat count of a CONTINUE when it is the first
beat of a continuation; or a read beat that the module is to drive. -/
inductive SharedLines where
  | released
  | select (code : SelectCode) (addr : ModAddr) (beats : Nat)
  | writeBeat (cont : Option Nat) (lanes : List (Byte × Bool))
  | readBeat
  deriving DecidableEq, Repr

/-- The backplane pins the gate drives: the select line asserted, if any, and the shared lines. -/
structure BusLines where
  select : Option (Fin 16)
  shared : SharedLines
  deriving DecidableEq, Repr

/-! ### Slot table (chapter 6) -/

/-- Fenced cause (R126). -/
inductive FencedCause where
  | command
  | faults
  deriving DecidableEq, Repr

/-- Probe stage (R126). -/
inductive ProbeStage where
  | queued
  | issued
  deriving DecidableEq, Repr

/-- Prior state of a PROBING slot (R126). -/
inductive PriorState where
  | offline
  | fenced (c : FencedCause)
  deriving DecidableEq, Repr

/-- State of a slot with the fields present in it (R126). -/
inductive SlotState where
  | offline
  | probing (stage : ProbeStage) (prior : PriorState)
  | online
  | fenced (c : FencedCause)
  deriving DecidableEq, Repr

/-- A slot record (R126). -/
structure Slot where
  state : SlotState
  identity : BitVec 32
  consecutive : Nat
  timeouts : Counter
  rejects : Counter
  dataErrors : Counter
  postedLost : Counter
  deriving DecidableEq, Repr

/-! ### Notice unit (chapter 7) -/

/-- The eight notice kinds (R143). -/
inductive NoticeKind where
  | slotChange
  | ticketExpired
  | accessFault
  | downstreamFault
  | moduleAlert
  | linkFault
  | leaseChange
  | ticketExhausted
  deriving DecidableEq, Repr

/-- A slot state as a SLOT_CHANGE detail and the status replies name it (R131, R203). -/
inductive SlotCode where
  | offline
  | probing
  | online
  | fenced
  deriving DecidableEq, Repr

/-- Cause of a SLOT_CHANGE (R131). -/
inductive ChangeCause where
  | probe
  | found
  | absent
  | command
  | faults
  | reset
  deriving DecidableEq, Repr

/-- Event of a LEASE_CHANGE (R172). -/
inductive LeaseEvent where
  | taken
  | dropped
  | expired
  | released
  deriving DecidableEq, Repr

/-- Cause of a TICKET_EXHAUSTED (R72). -/
inductive BusyCause where
  | queueFull
  | noTicketGranted
  deriving DecidableEq, Repr

/-- Detail record of a notice, by kind (R144). -/
inductive Detail where
  | slotChange (slot : Fin 16) (previous new : SlotCode) (cause : ChangeCause) (identity : BitVec 32)
  | ticketExpired (owner : Link) (number : Fin 24) (gen : BitVec 4) (upstream : UpAddr)
  | accessFault (link : Link) (reason : FailReason) (upstream : UpAddr)
  | downstreamFault (link : Link) (slot : Fin 16) (reason : FailReason) (upstream : UpAddr)
  | moduleAlert (slot : Fin 16) (identity : BitVec 32)
  | linkFault (link : Link) (reason : DropReason)
  | leaseChange (event : LeaseEvent) (link : Link) (duration : Byte)
  | ticketExhausted (link : Link) (cause : BusyCause) (tag : Byte) (upstream : UpAddr)
  deriving DecidableEq, Repr

/-- State of a kind: CLEAR, or LATCHED with its count and detail (R145). -/
inductive Latch where
  | clear
  | latched (count : Byte) (detail : Detail)
  deriving DecidableEq, Repr

/-- A kind record: its latch and the sent flag of each link (R145). -/
structure KindRecord where
  latch : Latch
  sent : PerLink Bool
  deriving DecidableEq, Repr

/-! ### Outbound frames and link ports (chapters 9 and 10) -/

/-- Status of a MGMT_REPLY (8.2, R202). -/
inductive Status where
  | ok
  | notOwner
  | leaseHeld
  | badIndex
  | badSlot
  | badRecord
  | badValue
  | overlap
  | locked
  | nothingStaged
  | slotState
  | notLatched
  | unknownCommand
  deriving DecidableEq, Repr

/-- Outcome of a RESULT frame with what it carries (R202). -/
inductive Answer where
  | data (bytes : List Byte)
  | done
  | pending (number : Fin 24) (gen : BitVec 4)
  | busy
  | fail (r : FailReason)
  | cancelled
  | detached
  | discarded
  deriving DecidableEq, Repr

/-- An outbound frame (R188, R195, R202). -/
inductive OutFrame where
  | welcome (link : Link) (credits : Nat)
  | result (tag : Byte) (a : Answer)
  | credit (count : Nat)
  | notice (kind : NoticeKind) (count : Byte) (detail : Detail)
  | mgmtReply (tag code : Byte) (status : Status) (results : List Byte)
  deriving DecidableEq, Repr

/-- A link port (R184). `transmitting` says that the head of the outbound list is in transmission. -/
structure Port where
  up : Bool
  granted : Nat
  owed : Nat
  enables : BitVec 8
  outbound : List OutFrame
  transmitting : Bool
  waiting : List RawFrame
  framesTaken : Counter
  shapeDrops : Counter
  downDrops : Counter
  overruns : Counter
  deriving DecidableEq, Repr

/-- The counters of the admission unit for one link (R60). -/
structure AdmCounters where
  busy : Counter
  accessFaults : Counter
  deriving DecidableEq, Repr

/-- The lease while it is HELD (R163). -/
structure Lease where
  holder : Link
  duration : Byte
  expiry : Nat
  deriving DecidableEq, Repr

/-! ### The state -/

/-- The state of the gate: every piece of state the chapters name, the levels of its inputs, the time, and the model's
own two fields `free` (log 15) and `pending` (log 22). -/
structure State where
  /-- Microseconds since the model's start (log 3). -/
  now : Nat
  /-- Level of the RESET input (R1). -/
  resetPin : Bool
  /-- Levels of LOS0 and LOS1 (R191). -/
  losPin : PerLink Bool
  /-- Levels of ALERT0 to ALERT15 (R126, R138). -/
  alertPin : Vector Bool 16
  /-- LP0 and LP1 (R184). -/
  ports : PerLink Port
  /-- The admission unit's counters (R60). -/
  adm : PerLink AdmCounters
  /-- Active entries: EMPTY, or ACTIVE with a record (R2). -/
  active : Vector (Option WindowRecord) 32
  /-- Staging cells (R2). -/
  staging : Vector StagingCell 32
  /-- Lock levels (R2). -/
  locks : Vector LockLevel 32
  /-- Ticket records (R30). -/
  tickets : Vector Ticket 24
  /-- Ticket quotas (R34). -/
  quota : PerLink Nat
  /-- Discard selection (R49). -/
  discard : DiscardSelection
  /-- Expired counter (R51). -/
  expired : Counter
  /-- WQ0 and WQ1, head first (R83). -/
  queues : PerLink (List WorkEntry)
  /-- Flushed counters (R98). -/
  flushed : PerLink Counter
  /-- PRQ, head first (R102). -/
  probes : List (Fin 16)
  /-- The arbiter's pointer (R89). -/
  pointer : Source
  /-- The backplane controller (R103). -/
  bpc : BpcState
  /-- Timeout selection (R103). -/
  timeoutSel : TimeoutSelection
  /-- Backplane pins driven by the gate (R105, R112). -/
  bus : BusLines
  /-- Slot records (R126). -/
  slots : Vector Slot 16
  /-- Fault limit (R126). -/
  faultLimit : Nat
  /-- Kind records, SLOT_CHANGE first (R143). -/
  kinds : Vector KindRecord 8
  /-- The lease: none is FREE (R163). -/
  lease : Option Lease
  /-- The model's own: how many free values have been drawn (log 15). -/
  free : Nat
  /-- The commands not yet taken, first in, first out (log 22). -/
  pending : List Instr
  deriving DecidableEq, Repr

/-- What stops the gate: nothing does. The manual names no condition in which a command has no next state. -/
inductive Fault where
  deriving DecidableEq, Repr

/-- Why a command has no meaning in this model. -/
inductive Refusal where
  /-- Raised by an arm of exec whose command has no meaning yet, under its mnemonic; no arm raises it. Safe. -/
  | notModelled (mnemonic : String)
  deriving DecidableEq, Repr

/-! ### Reset values -/

/-- A link port after full reset (R184, R197). -/
def Port.reset : Port where
  up := false
  granted := 0
  owed := 0
  enables := 0
  outbound := []
  transmitting := false
  waiting := []
  framesTaken := 0
  shapeDrops := 0
  downDrops := 0
  overruns := 0

/-- A ticket after full reset (R57). -/
def Ticket.reset : Ticket := ⟨0, .free⟩

/-- A slot record after full reset (R141). -/
def Slot.reset : Slot := ⟨.offline, 0, 0, 0, 0, 0, 0⟩

/-- A kind record after full reset (R156). -/
def KindRecord.reset : KindRecord := ⟨.clear, .both false⟩

/-- The backplane pins while no transaction is in progress (R112, R125). -/
def BusLines.released : BusLines := ⟨none, .released⟩

/-- The gate right after full reset by power-on (R1): R26, R57, R60, R98, R101, R125, R141, R156, R163, R184. The input
levels are chosen deasserted (log 1), the time 0 (log 3), the free counter 0 (log 15) and the command queue empty
(log 22). -/
def State.reset : State where
  now := 0
  resetPin := false
  losPin := .both false
  alertPin := .replicate 16 false
  ports := .both .reset
  adm := .both ⟨0, 0⟩
  active := .replicate 32 none
  staging := .replicate 32 .none
  locks := .replicate 32 .unlocked
  tickets := .replicate 24 .reset
  quota := .both 12
  discard := .ms16
  expired := 0
  queues := .both []
  flushed := .both 0
  probes := []
  pointer := .wq0
  bpc := .idle
  timeoutSel := .us128
  bus := .released
  slots := .replicate 16 .reset
  faultLimit := 3
  kinds := .replicate 8 .reset
  lease := none
  free := 0
  pending := []

end Sys2Proof.Machine
end

