-- ==== Sys2Proof/Machine/Formats.lean ====
section
/-! DEFINITION. Frame and record formats (chapter 10): the codes of the named values, and the bytes of outbound frames,
window records, notice details and replies. -/

namespace Sys2Proof.Machine

/-- The byte of a number carried in one byte. -/
def byte (n : Nat) : Byte := BitVec.ofNat 8 n

/-- A boolean byte of a reply: 00h for no and 01h for yes (R203). -/
def flagByte (b : Bool) : Byte := if b then 1 else 0

/-! ### Codes -/

/-- FAIL reason codes (R202). -/
def FailReason.code : FailReason → Byte
  | .noWindow => 0x01
  | .badLength => 0x02
  | .denied => 0x03
  | .badAlign => 0x04
  | .offline => 0x05
  | .fenced => 0x06
  | .timeout => 0x07
  | .rejected => 0x08
  | .dataError => 0x09
  | .revoked => 0x0A
  | .flushed => 0x0B
  | .noTicket => 0x0C

/-- Status codes (R202). -/
def Status.code : Status → Byte
  | .ok => 0x00
  | .notOwner => 0x01
  | .leaseHeld => 0x02
  | .badIndex => 0x03
  | .badSlot => 0x04
  | .badRecord => 0x05
  | .badValue => 0x06
  | .overlap => 0x07
  | .locked => 0x08
  | .nothingStaged => 0x09
  | .slotState => 0x0A
  | .notLatched => 0x0B
  | .unknownCommand => 0x0C

/-- LINK_FAULT reason codes (R205). -/
def linkFaultCode : DropReason → Byte
  | .crcError => 0x01
  | .unknownKind => 0x02
  | .lengthMismatch => 0x03
  | .creditOverrun => 0x04

/-- Slot state codes (R203). -/
def SlotCode.code : SlotCode → Byte
  | .offline => 0x00
  | .probing => 0x01
  | .online => 0x02
  | .fenced => 0x03

/-- The named state of a slot, without the fields present in it. -/
def SlotState.name : SlotState → SlotCode
  | .offline => .offline
  | .probing _ _ => .probing
  | .online => .online
  | .fenced _ => .fenced

/-- SLOT_CHANGE cause codes (R205). -/
def ChangeCause.code : ChangeCause → Byte
  | .probe => 0x01
  | .found => 0x02
  | .absent => 0x03
  | .command => 0x04
  | .faults => 0x05
  | .reset => 0x06

/-- LEASE_CHANGE event codes (R205). -/
def LeaseEvent.code : LeaseEvent → Byte
  | .taken => 0x01
  | .dropped => 0x02
  | .expired => 0x03
  | .released => 0x04

/-- TICKET_EXHAUSTED cause codes (R205). -/
def BusyCause.code : BusyCause → Byte
  | .queueFull => 0x01
  | .noTicketGranted => 0x02

/-- Fenced cause codes (R203). -/
def FencedCause.code : FencedCause → Byte
  | .command => 0x01
  | .faults => 0x02

/-- Probe stage codes (R203). -/
def ProbeStage.code : ProbeStage → Byte
  | .queued => 0x01
  | .issued => 0x02

/-- Rights codes (R204). -/
def Rights.code : Rights → Byte
  | .none => 0x00
  | .read => 0x01
  | .write => 0x02
  | .readWrite => 0x03

/-- Bytes of a width (R3, R204). -/
def Width.toNat : Width → Nat
  | .w1 => 1
  | .w2 => 2
  | .w4 => 4

/-- Lock level codes, in rising order of level (R203). -/
def LockLevel.rank : LockLevel → Nat
  | .unlocked => 0
  | .narrow => 1
  | .frozen => 2

/-- Staging state codes (R203). -/
def StagingCell.code : StagingCell → Byte
  | .none => 0x00
  | .set _ => 0x01
  | .clear => 0x02

/-- Discard selection codes (R203). -/
def DiscardSelection.code : DiscardSelection → Byte
  | .disabled => 0x00
  | .ms2 => 0x01
  | .ms16 => 0x02
  | .ms128 => 0x03

/-- Timeout selection codes (R203). -/
def TimeoutSelection.code : TimeoutSelection → Byte
  | .us16 => 0x00
  | .us128 => 0x01
  | .us1024 => 0x02

/-- The place of a kind among the eight, from 0 (R143 numbers them from 1). -/
def NoticeKind.index : NoticeKind → Fin 8
  | .slotChange => 0
  | .ticketExpired => 1
  | .accessFault => 2
  | .downstreamFault => 3
  | .moduleAlert => 4
  | .linkFault => 5
  | .leaseChange => 6
  | .ticketExhausted => 7

/-- Kind number, 1 to 8 (R143). -/
def NoticeKind.number (k : NoticeKind) : Byte := byte (k.index.val + 1)

/-- All kinds in rising kind number (R143). -/
def NoticeKind.all : List NoticeKind :=
  [.slotChange, .ticketExpired, .accessFault, .downstreamFault, .moduleAlert, .linkFault, .leaseChange,
   .ticketExhausted]

/-- The kind a detail belongs to (R144). -/
def Detail.kind : Detail → NoticeKind
  | .slotChange .. => .slotChange
  | .ticketExpired .. => .ticketExpired
  | .accessFault .. => .accessFault
  | .downstreamFault .. => .downstreamFault
  | .moduleAlert .. => .moduleAlert
  | .linkFault .. => .linkFault
  | .leaseChange .. => .leaseChange
  | .ticketExhausted .. => .ticketExhausted

/-! ### Records -/

/-- The 8 bytes of a detail record (R205). -/
def Detail.bytes : Detail → List Byte
  | .slotChange i p n c ident => [byte i.val, p.code, n.code, c.code] ++ be32 ident
  | .ticketExpired o t g a => [o.num, byte t.val, g.setWidth 8, 0] ++ be32 a
  | .accessFault n r a => [n.num, r.code, 0, 0] ++ be32 a
  | .downstreamFault n i r a => [n.num, byte i.val, r.code, 0] ++ be32 a
  | .moduleAlert i ident => [byte i.val, 0, 0, 0] ++ be32 ident
  | .linkFault n r => [n.num, linkFaultCode r, 0, 0, 0, 0, 0, 0]
  | .leaseChange e n d => [e.code, n.num, d, 0, 0, 0, 0, 0]
  | .ticketExhausted n c t a => [n.num, c.code, t, 0] ++ be32 a

/-- The 17 bytes of a window record (R204). -/
def WindowRecord.bytes (r : WindowRecord) : List Byte :=
  be32 r.base ++ be32 r.limit ++ [byte r.slot.val] ++ be24 r.modBase
    ++ [r.rights.l0.code, r.rights.l1.code, byte r.width.toNat, byte (r.hold.getD 0), flagByte r.chaining]

/-! ### Outbound frames -/

/-- Outcome code of an answer and what follows it (R202). -/
def Answer.bytes : Answer → List Byte
  | .data bs => 0x01 :: bs
  | .done => [0x02]
  | .pending t g => [0x03, byte t.val, g.setWidth 8]
  | .busy => [0x04]
  | .fail r => [0x05, r.code]
  | .cancelled => [0x06]
  | .detached => [0x07]
  | .discarded => [0x08]

/-- Kind code of an outbound frame (R200). -/
def OutFrame.kindCode : OutFrame → Byte
  | .welcome .. => Config.kindWelcome
  | .result .. => Config.kindResult
  | .credit .. => Config.kindCredit
  | .notice .. => Config.kindNotice
  | .mgmtReply .. => Config.kindMgmtReply

/-- Body of an outbound frame (R202). -/
def OutFrame.body : OutFrame → List Byte
  | .welcome n c => be16 Config.vendorCode ++ be16 Config.partCode ++ [Config.revision, n.num, byte c]
  | .result t a => t :: a.bytes
  | .credit c => [byte c]
  | .notice k c d => k.number :: c :: d.bytes
  | .mgmtReply t code st rs => t :: code :: st.code :: rs

/-- An outbound frame as it stands on the link, with the CRC the gate forms (R200). -/
def OutFrame.raw (f : OutFrame) : RawFrame := RawFrame.seal f.kindCode f.body

end Sys2Proof.Machine
end

