-- ==== Sys2Proof/Machine/Operands.lean ====
section
/-! DEFINITION. Operand bytes of management commands: the values they name, and the window record with its validity
(R4, R11, R175, R203, R204). -/

namespace Sys2Proof.Machine

/-- A window index operand, 0 to 31 (R11). -/
def indexOf (b : Byte) : Option (Fin 32) := if h : b.toNat < 32 then some ⟨b.toNat, h⟩ else none

/-- A slot operand, 0 to 15 (R128). -/
def slotOf (b : Byte) : Option (Fin 16) := if h : b.toNat < 16 then some ⟨b.toNat, h⟩ else none

/-- A ticket number of a CLAIM or CANCEL, 0 to 23 (R33). -/
def ticketOf (b : Byte) : Option (Fin 24) := if h : b.toNat < 24 then some ⟨b.toNat, h⟩ else none

/-- A link operand, 0 or 1 (R35, R175). -/
def linkOf (b : Byte) : Option Link := if b = 0 then some .l0 else if b = 1 then some .l1 else none

/-- A flag or selector byte: 00h or 01h (R203). -/
def flagOf (b : Byte) : Option Bool := if b = 0 then some false else if b = 1 then some true else none

/-- A lock level byte (R203). -/
def levelOf (b : Byte) : Option LockLevel :=
  if b = 0 then some .unlocked else if b = 1 then some .narrow else if b = 2 then some .frozen else none

/-- A discard selection byte (R203). -/
def discardOf (b : Byte) : Option DiscardSelection :=
  if b = 0 then some .disabled else if b = 1 then some .ms2 else if b = 2 then some .ms16
  else if b = 3 then some .ms128 else none

/-- A timeout selection byte (R203). -/
def timeoutOf (b : Byte) : Option TimeoutSelection :=
  if b = 0 then some .us16 else if b = 1 then some .us128 else if b = 2 then some .us1024 else none

/-- A notice kind number, 1 to 8 (R151). -/
def kindOf (b : Byte) : Option NoticeKind := NoticeKind.all.find? (fun k => k.number = b)

/-- A rights byte (R204). -/
def rightsOf (b : Byte) : Option Rights :=
  if b = 0 then some .none else if b = 1 then some .read else if b = 2 then some .write
  else if b = 3 then some .readWrite else none

/-- A width byte (R204). -/
def widthOf (b : Byte) : Option Width :=
  if b = 1 then some .w1 else if b = 2 then some .w2 else if b = 4 then some .w4 else none

/-- A hold byte: 00h absent, 02h to FAh the hold limit in microseconds (R204). The outer option is the validity. -/
def holdOf (b : Byte) : Option (Option Nat) :=
  if b = 0 then some none else if 2 ≤ b.toNat ∧ b.toNat ≤ 250 then some (some b.toNat) else none

/-- A hold limit in range: absent, or 2 to 250 microseconds (R3). -/
def holdInRange : Option Nat → Bool
  | none => true
  | some us => 2 ≤ us ∧ us ≤ 250

/-- Validity of a window record (R4). The slot, the rights, the width and the chaining setting are in range by their
types. -/
def WindowRecord.valid (r : WindowRecord) : Bool :=
  r.base.toNat % 256 = 0
    ∧ (r.limit.toNat + 1) % 256 = 0
    ∧ r.base.toNat < r.limit.toNat
    ∧ r.modBase.toNat % 256 = 0
    ∧ r.modBase.toNat + (r.limit.toNat - r.base.toNat) ≤ 0xFFFFFF
    ∧ holdInRange r.hold

/-- The window record that 17 operand bytes carry, when it is valid (R4, R204). -/
def recordOf : List Byte → Option WindowRecord
  | [b3, b2, b1, b0, l3, l2, l1, l0, slot, m2, m1, m0, r0, r1, w, h, c] => do
    let slot ← slotOf slot
    let right0 ← rightsOf r0
    let right1 ← rightsOf r1
    let width ← widthOf w
    let hold ← holdOf h
    let chaining ← flagOf c
    let r : WindowRecord :=
      { base := ofBe32 b3 b2 b1 b0, limit := ofBe32 l3 l2 l1 l0, slot := slot, modBase := ofBe24 m2 m1 m0,
        rights := ⟨right0, right1⟩, width := width, hold := hold, chaining := chaining }
    if r.valid then some r else none
  | _ => none

/-- A counter group (R174). -/
inductive CounterGroup where
  | link (n : Link)
  | slot (i : Fin 16)
  | gate
  deriving DecidableEq, Repr

/-- The group operand with its checks in the order of R175. -/
def groupOf (type number : Byte) : Except Status CounterGroup :=
  if type = 0 then
    match linkOf number with
    | some n => .ok (.link n)
    | none => .error .badValue
  else if type = 1 then
    match slotOf number with
    | some i => .ok (.slot i)
    | none => .error .badSlot
  else if type = 2 then
    if number = 0 then .ok .gate else .error .badValue
  else .error .badValue

end Sys2Proof.Machine
end

