-- ==== Sys2Proof/Machine/Flags.lean ====
section
/-! DEFINITION. Counters, notice counts and flags, and parity: how each of them changes. -/

namespace Sys2Proof.Machine

/-- A counter rises by one, unless it is saturated (00_scope.md, Counters). -/
def rise (c : Counter) : Counter := if c = BitVec.allOnes 32 then c else c + 1

/-- A notice count rises by one, up to 255 (R146). -/
def riseCount (c : Byte) : Byte := if c = 255 then c else c + 1

/-- Whether a kind is in an enable set (R203: kind k in bit k - 1). -/
def enabledIn (set : BitVec 8) (k : NoticeKind) : Bool := set.getLsbD k.index.val

/-- The latch of a kind after a raise (R146): a CLEAR kind latches with count 1 and the raise's detail, a LATCHED one
keeps its detail and its count rises. -/
def Latch.raise (l : Latch) (d : Detail) : Latch :=
  match l with
  | .clear => .latched 1 d
  | .latched c d0 => .latched (riseCount c) d0

/-- The count of a kind: 0 in CLEAR (R145). -/
def Latch.count : Latch → Byte
  | .clear => 0
  | .latched c _ => c

/-- The state byte of a kind (R203). -/
def Latch.code : Latch → Byte
  | .clear => 0
  | .latched _ _ => 1

/-- The detail bytes of a kind, 00h when it has no detail (R203). -/
def Latch.detailBytes : Latch → List Byte
  | .clear => List.replicate 8 0
  | .latched _ d => d.bytes

/-- How many ones a byte holds. -/
def ones (b : Byte) : Nat :=
  [b.getLsbD 0, b.getLsbD 1, b.getLsbD 2, b.getLsbD 3, b.getLsbD 4, b.getLsbD 5, b.getLsbD 6, b.getLsbD 7].count true

/-- The parity bit driven with a byte: the nine bits hold an odd number of ones (R108). -/
def parityBit (b : Byte) : Bool := ones b % 2 = 0

/-- Whether a byte lane arrives with correct parity (R108, R111). -/
def laneSound (lane : Byte × Bool) : Bool := lane.2 = parityBit lane.1

/-- The four byte lanes of a beat with their parity bits, lane 0 first (R108). -/
def laneList (lanes : BitVec 32) (parity : BitVec 4) : List (Byte × Bool) :=
  [(lanes.extractLsb' 0 8, parity.getLsbD 0), (lanes.extractLsb' 8 8, parity.getLsbD 1),
   (lanes.extractLsb' 16 8, parity.getLsbD 2), (lanes.extractLsb' 24 8, parity.getLsbD 3)]

end Sys2Proof.Machine
end

