-- ==== Sys2Proof/Machine/Ops.lean ====
section
/-! DEFINITION. The shared operations: accessors and updates of each block's state, the forming of frames, credit
reports, notices, slot and ticket changes, lookups, the loss of the lease, and the taking of inbound frames and of
management commands. -/

namespace Sys2Proof.Machine

/-- What a command answers. -/
abbrev StepResult := Host.Outcome State Fault Refusal

/-! ### Accessors -/

def State.port (s : State) (n : Link) : Port := s.ports.get n
def State.queue (s : State) (n : Link) : List WorkEntry := s.queues.get n
def State.ticket (s : State) (t : Fin 24) : Ticket := s.tickets[t]
def State.slot (s : State) (i : Fin 16) : Slot := s.slots[i]
def State.kind (s : State) (k : NoticeKind) : KindRecord := s.kinds[k.index]

/-! ### Updates -/

def State.updPort (s : State) (n : Link) (f : Port → Port) : State :=
  { s with ports := s.ports.set n (f (s.ports.get n)) }

def State.updAdm (s : State) (n : Link) (f : AdmCounters → AdmCounters) : State :=
  { s with adm := s.adm.set n (f (s.adm.get n)) }

def State.updFlushed (s : State) (n : Link) (f : Counter → Counter) : State :=
  { s with flushed := s.flushed.set n (f (s.flushed.get n)) }

def State.setQueue (s : State) (n : Link) (es : List WorkEntry) : State :=
  { s with queues := s.queues.set n es }

def State.updTicket (s : State) (t : Fin 24) (f : Ticket → Ticket) : State :=
  { s with tickets := updAt s.tickets t f }

def State.updSlot (s : State) (i : Fin 16) (f : Slot → Slot) : State :=
  { s with slots := updAt s.slots i f }

def State.updKind (s : State) (k : NoticeKind) (f : KindRecord → KindRecord) : State :=
  { s with kinds := updAt s.kinds k.index f }

/-- The state with the time moved up to a point, never back (log 4). -/
def State.toward (s : State) (d : Nat) : State := { s with now := max s.now d }

/-- While RESET stays asserted, no event is taken (R1). -/
def State.unlessReset (s : State) (f : State → State) : State := if s.resetPin then s else f s

/-! ### Outbound frames and credits -/

/-- A frame formed for a link: appended to its outbound list, or discarded while the link is DOWN (R195). -/
def Port.form (p : Port) (f : OutFrame) : Port :=
  if p.up then { p with outbound := p.outbound ++ [f] } else p

def State.form (s : State) (n : Link) (f : OutFrame) : State := s.updPort n (·.form f)

/-- A report of credits owed at a port (R193): while UP, the count joins owed, a CREDIT frame carries all of owed, owed
becomes 0 and granted takes the same number; while DOWN it is ignored. -/
def Port.report (p : Port) (count : Nat) : Port :=
  if p.up then
    { p.form (.credit (p.owed + count)) with granted := p.granted + (p.owed + count), owed := 0 }
  else p

def State.report (s : State) (n : Link) (count : Nat) : State := s.updPort n (·.report count)

/-- One report that carries a link's count, provided the count is not 0 (R96, R100). -/
def State.reportCount (s : State) (n : Link) (count : Nat) : State :=
  if count = 0 then s else s.report n count

/-! ### Notices -/

/-- The emission test of one kind on one link, and the NOTICE it forms when it passes (R148). -/
def State.emit (s : State) (k : NoticeKind) (n : Link) : State :=
  match (s.kind k).latch with
  | .clear => s
  | .latched c d =>
    if (s.port n).up ∧ enabledIn (s.port n).enables k ∧ (s.kind k).sent.get n = false then
      (s.form n (.notice k c d)).updKind k fun r => { r with sent := r.sent.set n true }
    else s

/-- A raise with a detail: the record of its kind changes, then the emission test is made on each link (R146). -/
def State.raise (s : State) (d : Detail) : State :=
  ((s.updKind d.kind fun r => { r with latch := r.latch.raise d }).emit d.kind .l0).emit d.kind .l1

/-- The emission test on one link for every kind, in rising kind number (R147, R189). -/
def State.emitAll (s : State) (n : Link) : State := NoticeKind.all.foldl (fun s k => s.emit k n) s

/-! ### Slots -/

/-- A change of a slot's record that changes its state: SLOT_CHANGE is raised after the record has been changed (R131). -/
def State.changeSlot (s : State) (i : Fin 16) (new : Slot) (cause : ChangeCause) : State :=
  (s.updSlot i fun _ => new).raise
    (.slotChange i (s.slot i).state.name new.state.name cause new.identity)

/-- Whether the gate sends work to a slot: it is ONLINE (R127). -/
def State.online (s : State) (i : Fin 16) : Bool := (s.slot i).state = .online

/-- The outcomes of a transaction that are not success (R118). -/
inductive Failure where
  | rejected
  | dataError
  | timeout
  deriving DecidableEq, Repr

/-- The FAIL reason of a failed outcome (R118). -/
def Failure.reason : Failure → FailReason
  | .rejected => .rejected
  | .dataError => .dataError
  | .timeout => .timeout

/-- The counters of a slot after a failed outcome (R132). -/
def Slot.countFailure (r : Slot) (f : Failure) (posted : Bool) : Slot :=
  let r := if posted then { r with postedLost := rise r.postedLost } else r
  match f with
  | .rejected => { r with rejects := rise r.rejects }
  | .dataError => { r with dataErrors := rise r.dataErrors }
  | .timeout =>
    { r with timeouts := rise r.timeouts, consecutive := min Config.maxConsecutive (r.consecutive + 1) }

/-- The outcome report of a failed transaction (R119, R132), with the fencing at the fault limit (R133). -/
def State.reportFailure (s : State) (i : Fin 16) (f : Failure) (posted : Bool) : State :=
  let r := (s.slot i).countFailure f posted
  if f = .timeout ∧ r.state = .online ∧ s.faultLimit ≤ r.consecutive then
    s.changeSlot i { r with state := .fenced .faults } .faults
  else s.updSlot i fun _ => r

/-- The ACCEPTED report (R119, R132). -/
def State.reportAccepted (s : State) (i : Fin 16) : State :=
  s.updSlot i fun r => { r with consecutive := 0 }

/-- A probe result at the slot table: an identity for success, none for no module (R130). It counts only when the slot
is PROBING with probe stage ISSUED. -/
def State.probeResult (s : State) (i : Fin 16) (found : Option (BitVec 32)) : State :=
  match (s.slot i).state with
  | .probing .issued _ =>
    match found with
    | some ident =>
      s.changeSlot i { s.slot i with state := .online, identity := ident, consecutive := 0 } .found
    | none => s.changeSlot i { s.slot i with state := .offline, identity := 0, consecutive := 0 } .absent
  | _ => s

/-- The state a PROBING slot came from (R126, R142). -/
def PriorState.restored : PriorState → SlotState
  | .offline => .offline
  | .fenced c => .fenced c

/-- The prior state with which a slot enters PROBING (R128); none where SLOT_PROBE is refused. -/
def SlotState.prior? : SlotState → Option PriorState
  | .offline => some .offline
  | .fenced c => some (.fenced c)
  | .probing _ _ => none
  | .online => none

/-! ### Tickets -/

/-- All ticket numbers in rising order. -/
def ticketNumbers : List (Fin 24) := List.finRange 24

/-- The request a ticket holds, in every state but FREE (R30). -/
def TicketState.request? : TicketState → Option Request
  | .free => none
  | .queued r _ _ => some r
  | .issued r _ _ => some r
  | .ready r _ _ => some r
  | .detached r => some r

/-- The owner link of a ticket that is not FREE (R30). -/
def TicketState.owner? (st : TicketState) : Option Link := st.request?.map (·.owner)

/-- When the timer of a ticket runs out: the hold timer of a DIRECT ticket, the discard deadline of a READY one (R30). -/
def TicketState.timerEnd? : TicketState → Option Nat
  | .free => none
  | .queued _ _ (.direct e) => some e
  | .queued _ _ .deferred => none
  | .issued _ _ (.direct e) => some e
  | .issued _ _ .deferred => none
  | .ready _ _ d => d
  | .detached _ => none

/-- Whether a ticket is in DIRECT mode (R30). -/
def TicketState.isDirect : TicketState → Bool
  | .queued _ _ (.direct _) => true
  | .issued _ _ (.direct _) => true
  | _ => false

/-- How many tickets a link holds: those it owns that are not FREE (R34). -/
def State.holding (s : State) (n : Link) : Nat :=
  ticketNumbers.countP fun t => (s.ticket t).st.owner? = some n

/-- Whether a link holds a ticket in DIRECT mode (R37). -/
def State.holdsDirect (s : State) (n : Link) : Bool :=
  ticketNumbers.any fun t => (s.ticket t).st.isDirect && (s.ticket t).st.owner? = some n

/-- The lowest-numbered FREE ticket (R36). -/
def State.lowestFree (s : State) : Option (Fin 24) :=
  ticketNumbers.find? fun t => (s.ticket t).st = .free

/-- A ticket becomes FREE and its generation advances, modulo 16 (R32). -/
def Ticket.freed (k : Ticket) : Ticket := ⟨k.gen + 1, .free⟩

def State.freeTicket (s : State) (t : Fin 24) : State := s.updTicket t Ticket.freed

/-- A ticket takes a new state and keeps its generation. -/
def State.setTicketState (s : State) (t : Fin 24) (st : TicketState) : State :=
  s.updTicket t fun k => { k with st := st }

/-- The discard deadline under a selection, counted from a point in time (R43, R49). -/
def DiscardSelection.deadline (d : DiscardSelection) (now : Nat) : Option Nat :=
  match d with
  | .disabled => none
  | .ms2 => some (now + 2000)
  | .ms16 => some (now + 16000)
  | .ms128 => some (now + 128000)

/-- The answer that carries a result (R40, R45). -/
def Result.answer : Result → Answer
  | .data bs => .data bs
  | .done => .done
  | .fail r => .fail r

/-- The handling of a completion by a request's reply mode (R40, R42, R43). -/
def State.completeRequest (s : State) (t : Fin 24) (r : Request) (m : ReplyMode) (res : Result) : State :=
  match m with
  | .direct _ => (s.form r.owner (.result r.tag res.answer)).freeTicket t
  | .deferred => s.setTicketState t (.ready r res (s.discard.deadline s.now))

/-- A completion at the ticket table (R42): a DIRECT ticket is answered and freed, a DEFERRED one becomes READY, a
DETACHED one is freed. -/
def State.complete (s : State) (t : Fin 24) (res : Result) : State :=
  match (s.ticket t).st with
  | .queued r _ m => s.completeRequest t r m res
  | .issued r _ m => s.completeRequest t r m res
  | .detached _ => s.freeTicket t
  | .free => s
  | .ready _ _ _ => s

/-! ### Work queues -/

/-- Whether an entry is a posted entry (R83). -/
def WorkEntry.isPosted : WorkEntry → Bool
  | .posted _ => true
  | .ticketed _ => false

/-- Posted entries waiting in the queue of a link (R84). -/
def State.postedCount (s : State) (n : Link) : Nat := (s.queue n).countP (·.isPosted)

/-- Ticketed entries waiting in the queue of a link (R70). -/
def State.ticketedCount (s : State) (n : Link) : Nat := (s.queue n).countP (fun e => !e.isPosted)

/-- The entry that names a ticket leaves the queue of a link; the others keep their order (R47, R83). -/
def State.dropEntry (s : State) (n : Link) (t : Fin 24) : State :=
  s.setQueue n ((s.queue n).filter (· ≠ .ticketed t))

/-- The slot an entry names (R86): its own field, or the slot of the QUEUED ticket it names (log 18). -/
def State.entrySlot (s : State) : WorkEntry → Option (Fin 16)
  | .posted e => some e.slot
  | .ticketed t =>
    match (s.ticket t).st with
    | .queued r _ _ => some r.slot
    | _ => none

/-- Whether the head of a link's queue is eligible (R89). -/
def State.headEligible (s : State) (n : Link) : Bool :=
  match s.queue n with
  | e :: _ =>
    match s.entrySlot e with
    | some i => s.online i
    | none => false
  | [] => false

/-- Whether the head of a link's queue is subject to head disposal (R86). -/
def State.headDisposable (s : State) (n : Link) : Bool :=
  match s.queue n with
  | e :: _ =>
    match s.entrySlot e with
    | some i => !s.online i
    | none => false
  | [] => false

/-! ### Window table -/

/-- All window indices in rising order. -/
def windowIndices : List (Fin 32) := List.finRange 32

/-- Whether a record's range contains an upstream address (R3, R7). -/
def WindowRecord.covers (r : WindowRecord) (a : UpAddr) : Bool := r.base ≤ a ∧ a ≤ r.limit

/-- Whether two ranges overlap (R3). -/
def WindowRecord.overlaps (r q : WindowRecord) : Bool := r.base ≤ q.limit ∧ q.base ≤ r.limit

/-- A lookup: the index of the ACTIVE entry whose range contains the address, with its record (R7). -/
def lookup (active : Vector (Option WindowRecord) 32) (a : UpAddr) : Option (Fin 32 × WindowRecord) :=
  windowIndices.findSome? fun i =>
    match active[i] with
    | some r => if r.covers a then some (i, r) else none
    | none => none

/-- Translation of an upstream address through a record (R8). -/
def WindowRecord.translate (r : WindowRecord) (a : UpAddr) : ModAddr :=
  r.modBase + (a - r.base).setWidth 24

/-- Whether a right permits READ (R5). -/
def Rights.permitsRead : Rights → Bool
  | .none => false
  | .read => true
  | .write => false
  | .readWrite => true

/-- Whether a right permits WRITE and WRITE_CONFIRMED (R5). -/
def Rights.permitsWrite : Rights → Bool
  | .none => false
  | .read => false
  | .write => true
  | .readWrite => true

/-- Whether one right is contained in another (R5). -/
def Rights.containedIn (a b : Rights) : Bool :=
  (!a.permitsRead || b.permitsRead) && (!a.permitsWrite || b.permitsWrite)

/-- The permission a request needs (R61). -/
inductive Permission where
  | read
  | write
  deriving DecidableEq, Repr

/-- The permission the operation of a ticket needs (R61). -/
def TicketOp.permission : TicketOp → Permission
  | .read => .read
  | .confirmedWrite => .write

/-- Whether a right contains a permission (R5, R66). -/
def Rights.permits (r : Rights) : Permission → Bool
  | .read => r.permitsRead
  | .write => r.permitsWrite

/-! ### Lease -/

/-- Whether a link holds the lease (R161). -/
def State.holdsLease (s : State) (n : Link) : Bool :=
  match s.lease with
  | some l => l.holder = n
  | none => false

/-- The loss of a lease (R166): it becomes FREE, every staging cell becomes NONE (R28), LEASE_CHANGE is raised. -/
def State.loseLease (s : State) (l : Lease) (e : LeaseEvent) : State :=
  ({ s with lease := none, staging := .replicate 32 .none } : State).raise (.leaseChange e l.holder l.duration)

/-! ### Backplane controller -/

/-- Microseconds of a timeout selection (R103). -/
def TimeoutSelection.micros : TimeoutSelection → Nat
  | .us16 => 16
  | .us128 => 128
  | .us1024 => 1024

/-- When a phase timer started now runs out (R113). -/
def State.phaseEnd (s : State) : Nat := s.now + s.timeoutSel.micros

/-- When the phase timer runs out, while it runs (R103). -/
def BpcState.timerEnd? : BpcState → Option Nat
  | .idle => none
  | .addressing _ _ d => some d
  | .transfer _ _ d _ _ => some d

/-- The slot of an operation (R103). -/
def Operation.slot : Operation → Fin 16
  | .postedWrite _ e => e.slot
  | .ticketed _ r _ => r.slot
  | .probe i => i

/-- The width of an operation; a probe reads one beat of width 4 (R115). -/
def Operation.width : Operation → Width
  | .postedWrite _ e => e.width
  | .ticketed _ r _ => r.width
  | .probe _ => .w4

/-- The beat count of an operation (R105, R108). -/
def Operation.beats : Operation → Nat
  | .postedWrite _ e => e.len / e.width.toNat
  | .ticketed _ r _ => r.len / r.width.toNat
  | .probe _ => 1

/-- The module address presented with the select (R105). -/
def Operation.addr : Operation → ModAddr
  | .postedWrite _ e => e.addr
  | .ticketed _ r _ => r.addr
  | .probe _ => 0

/-- The operation code presented with the select (R105). -/
def Operation.code : Operation → SelectCode
  | .postedWrite _ _ => .write
  | .ticketed _ r _ =>
    match r.op with
    | .read => .read
    | .confirmedWrite => .write
  | .probe _ => .probe

/-- The data of a write (R103). -/
def Operation.data : Operation → List Byte
  | .postedWrite _ e => e.data
  | .ticketed _ _ d => d
  | .probe _ => []

/-- Whether the beats of an operation are write beats (R109). -/
def Operation.isWrite (op : Operation) : Bool := op.code = .write

/-- The byte lanes of write beat i with their parity bits (R108, R109). -/
def Operation.lanes (op : Operation) (i : Nat) : List (Byte × Bool) :=
  ((op.data.drop (i * op.width.toNat)).take op.width.toNat).map fun b => (b, parityBit b)

/-- What the gate presents on the shared lines for beat i of an operation (log 17). -/
def Operation.beatLines (op : Operation) (i : Nat) (cont : Option Nat) : SharedLines :=
  if op.isWrite then .writeBeat cont (op.lanes i) else .readBeat

/-- The first byte of the 64-byte module row that holds an address (R92, R103). -/
def rowOf (a : ModAddr) : ModAddr := a - BitVec.ofNat 24 (a.toNat % 64)

/-- The run row of an operation: present for a posted write (R103, R105). -/
def Operation.row : Operation → Option ModAddr
  | .postedWrite _ e => some (rowOf e.addr)
  | .ticketed _ _ _ => none
  | .probe _ => none

/-- The controller takes an operation at a grant: the select is driven and the phase timer starts (R105, R113). -/
def State.startSelect (s : State) (op : Operation) : State :=
  { s with
    bpc := .addressing op op.row s.phaseEnd
    bus := ⟨some op.slot, .select op.code op.addr op.beats⟩ }

/-- The return to IDLE: the operation is gone, the phase timer stops, the lines are released (R112). -/
def State.toIdle (s : State) : State := { s with bpc := .idle, bus := .released }

/-- The end of a transaction that is not a success, with its reports in the order of R122: the outcome report (or the
probe result), DOWNSTREAM_FAULT where R120 or R121 calls for it, the completion, the return to IDLE. -/
def State.endFailed (s : State) (op : Operation) (f : Failure) : State :=
  match op with
  | .probe i => (s.probeResult i none).toIdle
  | .postedWrite n e =>
    ((s.reportFailure e.slot f true).raise (.downstreamFault n e.slot f.reason e.upstream)).toIdle
  | .ticketed t r _ =>
    let s1 := s.reportFailure r.slot f false
    let s2 := if f = .timeout then s1.raise (.downstreamFault r.owner r.slot f.reason r.upstream) else s1
    (s2.complete t (.fail f.reason)).toIdle

/-! ### Timers -/

/-- The ends of the timers that run: of the tickets (R39, R50), of the lease (R168) and of the controller (R113). -/
def State.timerEnds (s : State) : List Nat :=
  (ticketNumbers.filterMap fun t => (s.ticket t).st.timerEnd?) ++ (s.lease.map (·.expiry)).toList
    ++ s.bpc.timerEnd?.toList

/-- What comes about when a timer with this end runs out. The time moves up to the end. Where another timer ends earlier,
that one runs out first: this one still runs, and nothing comes about (R39, R50, R113, R168; law 10, R49; log 4). -/
def State.atTimerEnd (s : State) (e : Nat) (f : State → State) : State :=
  if s.timerEnds.all fun x => e ≤ x then f (s.toward e) else s

/-! ### Inbound frames -/

/-- Whether a frame that arrives on a link must wait: the port withholds taking, or frames already wait (R185). -/
def State.mustWait (s : State) (n : Link) : Bool :=
  Config.outboundPause ≤ (s.port n).outbound.length ∨ (s.port n).waiting ≠ []

/-- A frame joins the waiting frames of a link, or is discarded when the receiver can hold no more (R185, log 7). -/
def State.waitAtReceiver (s : State) (n : Link) (f : RawFrame) : State :=
  let room := Config.receiverHolds s.free
  let s := { s with free := s.free + 1 }
  if room then s.updPort n fun p => { p with waiting := p.waiting ++ [f] } else s

/-- Whether a frame that arrives whole on a link is taken at once: RESET and LOSn are deasserted and nothing makes it
wait (R1, R185). -/
def State.takesNow (s : State) (n : Link) : Bool :=
  !s.resetPin && !(s.losPin.get n) && !s.mustWait n

/-- The arrival of a whole frame on a link: discarded while RESET or the loss-of-signal input is asserted (R1, R185,
log 8), kept waiting where it must wait, taken otherwise (log 6). -/
def State.arrive (s : State) (n : Link) (f : Option RawFrame) (take : State → State) : State :=
  if s.resetPin ∨ s.losPin.get n then s
  else if s.mustWait n then
    match f with
    | some f => s.waitAtReceiver n f
    | none => s
  else take s

/-- The dispatch of a well-formed frame other than HELLO (R187): a down-drop while the link is DOWN; otherwise it is
counted and handed to its owner. -/
def State.dispatch (s : State) (n : Link) (act : State → State) : State :=
  if (s.port n).up then act (s.updPort n fun p => { p with framesTaken := rise p.framesTaken })
  else s.updPort n fun p => { p with downDrops := rise p.downDrops }

/-- The drop of a frame that fails a check of R186. -/
def State.dropFrame (s : State) (n : Link) (why : DropReason) : State :=
  (s.updPort n fun p => { p with shapeDrops := rise p.shapeDrops }).raise (.linkFault n why)

/-! ### Management commands -/

/-- What the owner of a command gives back: the status, the result operands and the state after its effect (R162). -/
structure MgmtAnswer where
  status : Status
  results : List Byte
  state : State

/-- A refusal without result operands: nothing changes (R159, R160). -/
def State.refuse (s : State) (st : Status) : MgmtAnswer := ⟨st, [], s⟩

/-- Success with result operands (R160). -/
def State.accept (s : State) (results : List Byte) : MgmtAnswer := ⟨.ok, results, s⟩

/-- The MGMT_REPLY of a command (R160). -/
def MgmtAnswer.reply (a : MgmtAnswer) (n : Link) (tag code : Byte) : State :=
  a.state.form n (.mgmtReply tag code a.status a.results)

/-- Checks 2 and 3 of R159: the operand length, then the lease; then the owner's part. -/
def State.checked (s : State) (n : Link) (count : Nat) (lease : Bool) (ops : List Byte)
    (owner : List Byte → State → MgmtAnswer) : MgmtAnswer :=
  if ops.length ≠ count then s.refuse .badValue
  else if lease && !s.holdsLease n then s.refuse .notOwner
  else owner ops s

/-- The taking of a management command whose code is known (R158 to R162): `count` operand bytes, with or without the
lease, and the owner's part of the command. -/
def State.manage (s : State) (n : Link) (tag code : Byte) (count : Nat) (lease : Bool) (ops : List Byte)
    (owner : List Byte → State → MgmtAnswer) : State :=
  s.dispatch n fun s => (s.checked n count lease ops owner).reply n tag code

end Sys2Proof.Machine
end

