-- ==== Sys2Proof/Machine/Admission.lean ====
section
/-! DEFINITION. Request admission (chapter 3) and the credit check of a posted write (R192): the meanings of READ,
WRITE_CONFIRMED and WRITE. -/

namespace Sys2Proof.Machine

/-- Check 1: length 1 to 64 within one upstream row (R63). -/
def lengthInRow (a : UpAddr) (len : Nat) : Bool := 1 ≤ len ∧ len ≤ 64 ∧ a.toNat % 64 + len ≤ 64

/-- The address of the last byte of a request (R8). -/
def lastByte (a : UpAddr) (len : Nat) : UpAddr := a + BitVec.ofNat 32 len - 1

/-- Check 5: address and length are multiples of the width (R67). -/
def aligned (w : Width) (a : UpAddr) (len : Nat) : Bool := a.toNat % w.toNat = 0 ∧ len % w.toNat = 0

/-- The five checks of admission in their order (R62): the resolving window's record, or the reason of the first check
that fails. -/
def State.admission (s : State) (n : Link) (need : Permission) (a : UpAddr) (len : Nat) : Except FailReason WindowRecord :=
  if lengthInRow a len = false then .error .badLength
  else
    match lookup s.active a with
    | none => .error .noWindow
    | some (i, r) =>
      if (lookup s.active (lastByte a len)).map (·.1) ≠ some i then .error .badLength
      else if (r.rights.get n).permits need = false then .error .denied
      else if aligned r.width a len = false then .error .badAlign
      else .ok r

/-- A ticketed request refused for a resource (R72): BUSY, the BUSY counter, TICKET_EXHAUSTED. -/
def State.refuseBusy (s : State) (n : Link) (tag : Byte) (a : UpAddr) (cause : BusyCause) : State :=
  ((s.form n (.result tag .busy)).updAdm n fun c => { c with busy := rise c.busy }).raise
    (.ticketExhausted n cause tag a)

/-- The reply mode a new ticket starts in (R37): DIRECT when the window has a hold and the link holds no DIRECT ticket. -/
def State.startMode (s : State) (n : Link) (hold : Option Nat) : ReplyMode :=
  match hold with
  | some us => if s.holdsDirect n then .deferred else .direct (s.now + us)
  | none => .deferred

/-- The request a ticket carries, from a frame and its resolving window (R76). -/
def WindowRecord.request (w : WindowRecord) (n : Link) (tag : Byte) (op : TicketOp) (a : UpAddr) (len : Nat) : Request :=
  { owner := n, tag := tag, op := op, slot := w.slot, addr := w.translate a, width := w.width, len := len,
    upstream := a }

/-- Admission of a ticketed request under a FREE ticket (R36, R74): the ticket becomes QUEUED, its entry joins the tail
of the queue, and PENDING is formed when it is DEFERRED. -/
def State.allocate (s : State) (t : Fin 24) (r : Request) (data : List Byte) (hold : Option Nat) : State :=
  let m := s.startMode r.owner hold
  let s1 := s.setTicketState t (.queued r data m)
  let s2 := s1.setQueue r.owner (s1.queue r.owner ++ [.ticketed t])
  match m with
  | .deferred => s2.form r.owner (.result r.tag (.pending t (s.ticket t).gen))
  | .direct _ => s2

/-- The resource checks of a ticketed request in their order, then its admission (R70, R71, R74). -/
def State.admitTicketed (s : State) (w : WindowRecord) (r : Request) (data : List Byte) : State :=
  if Config.ticketedBound ≤ s.ticketedCount r.owner then s.refuseBusy r.owner r.tag r.upstream .queueFull
  else if s.quota.get r.owner ≤ s.holding r.owner then s.refuseBusy r.owner r.tag r.upstream .noTicketGranted
  else
    match s.lowestFree with
    | none => s.refuseBusy r.owner r.tag r.upstream .noTicketGranted
    | some t => s.allocate t r data w.hold

/-- A ticketed request at the admission unit: the five checks, FAIL at the first that fails (R68), else the resource
checks. -/
def State.ticketedRequest (s : State) (n : Link) (tag : Byte) (op : TicketOp) (a : UpAddr) (len : Nat)
    (data : List Byte) : State :=
  match s.admission n op.permission a len with
  | .error why => s.form n (.result tag (.fail why))
  | .ok w => s.admitTicketed w (w.request n tag op a len) data

/-- READ (R59, R62, R68, R70 to R76). -/
def takeRead (n : Link) (tag : Byte) (a : UpAddr) (len : Byte) (s : State) : State :=
  s.dispatch n fun s => s.ticketedRequest n tag .read a len.toNat []

def execRead (n : Link) (tag : Byte) (a : UpAddr) (len : Byte) (s : State) : StepResult :=
  .next (s.arrive n (encodeFrame (.read n tag a len)) (takeRead n tag a len))

/-- WRITE_CONFIRMED (R59, R62, R68, R70 to R76). A frame whose data are not as many as its length names, or could not
stand in a body of 255 bytes, fails the shape check (R186, R200; log 11). -/
def takeWriteConfirmed (n : Link) (tag : Byte) (a : UpAddr) (len : Byte) (data : List Byte) (s : State) : State :=
  if data.length = len.toNat ∧ data.length ≤ 249 then
    s.dispatch n fun s => s.ticketedRequest n tag .confirmedWrite a len.toNat data
  else s.dropFrame n .lengthMismatch

def execWriteConfirmed (n : Link) (tag : Byte) (a : UpAddr) (len : Byte) (data : List Byte) (s : State) : StepResult :=
  .next (s.arrive n (encodeFrame (.writeConfirmed n tag a len data)) (takeWriteConfirmed n tag a len data))

/-- The posted entry of a write and its resolving window (R77). -/
def WindowRecord.postedEntry (w : WindowRecord) (a : UpAddr) (len : Nat) (data : List Byte) : PostedEntry :=
  { upstream := a, slot := w.slot, addr := w.translate a, width := w.width, len := len, data := data,
    chaining := w.chaining }

/-- A posted write that fails a check is dropped (R69): the access-fault counter, ACCESS_FAULT, the credit owed. -/
def State.dropPosted (s : State) (n : Link) (a : UpAddr) (why : FailReason) : State :=
  ((s.updAdm n fun c => { c with accessFaults := rise c.accessFaults }).raise (.accessFault n why a)).report n 1

/-- A posted write at the admission unit (R69, R77). -/
def State.postedRequest (s : State) (n : Link) (a : UpAddr) (len : Nat) (data : List Byte) : State :=
  match s.admission n .write a len with
  | .error why => s.dropPosted n a why
  | .ok w => s.setQueue n (s.queue n ++ [.posted (w.postedEntry a len data)])

/-- A WRITE taken with no granted credit (R192). -/
def State.creditOverrun (s : State) (n : Link) : State :=
  (s.updPort n fun p => { p with overruns := rise p.overruns }).raise (.linkFault n .creditOverrun)

/-- The credit check of a WRITE, then its admission (R192). -/
def State.creditedWrite (s : State) (n : Link) (a : UpAddr) (len : Nat) (data : List Byte) : State :=
  if (s.port n).granted = 0 then s.creditOverrun n
  else (s.updPort n fun p => { p with granted := p.granted - 1 }).postedRequest n a len data

/-- WRITE (R59, R69, R77, R187, R192); the shape check as for WRITE_CONFIRMED (log 11). -/
def takeWrite (n : Link) (a : UpAddr) (len : Byte) (data : List Byte) (s : State) : State :=
  if data.length = len.toNat ∧ data.length ≤ 250 then
    s.dispatch n fun s => s.creditedWrite n a len.toNat data
  else s.dropFrame n .lengthMismatch

def execWrite (n : Link) (a : UpAddr) (len : Byte) (data : List Byte) (s : State) : StepResult :=
  .next (s.arrive n (encodeFrame (.write n a len data)) (takeWrite n a len data))

end Sys2Proof.Machine
end

