-- ==== Sys2Proof/Machine/Backplane.lean ====
section
/-! DEFINITION. Backplane transactions (chapter 5), head disposal and the arbiter (4.2 to 4.4): the meanings of
SET_BP_TIMEOUT, PHASE_TIMER_EXPIRY, the module answers, ARBITER_GRANT and HEAD_DISPOSAL. -/

namespace Sys2Proof.Machine

/-- SET_BP_TIMEOUT at its owner (R114). -/
def ownerSetBpTimeout (ops : List Byte) (s : State) : MgmtAnswer :=
  match ops with
  | [b] =>
    match timeoutOf b with
    | some x => ({ s with timeoutSel := x } : State).accept [x.code]
    | none => s.refuse .badValue
  | _ => s.refuse .badValue

def execSetBpTimeout (n : Link) (tag : Byte) (ops : List Byte) (s : State) : StepResult :=
  .next (s.arrive n (encodeFrame (.setBpTimeout n tag ops)) fun s =>
    s.manage n tag Config.codeSetBpTimeout 1 true ops ownerSetBpTimeout)

/-! ### Address phase -/

/-- The beats begin: the controller awaits beat `i` under a fresh phase timer (R104, R109, R111, R113). -/
def State.awaitBeat (s : State) (op : Operation) (row : Option ModAddr) (i : Nat) (readData : List Byte)
    (cont : Option Nat) : State :=
  { s with
    bpc := .transfer op row s.phaseEnd i readData
    bus := ⟨some op.slot, op.beatLines i cont⟩ }

/-- The ACCEPTED report of a select, for any kind except PROBE (R106, R119). -/
def State.acceptedReport (s : State) (op : Operation) : State :=
  match op with
  | .probe _ => s
  | .postedWrite _ e => s.reportAccepted e.slot
  | .ticketed _ r _ => s.reportAccepted r.slot

/-- SELECT_ACCEPT (R106): ignored unless a select awaits its answer (R112; log 12). -/
def takeSelectAccept (s : State) : State :=
  s.unlessReset fun s =>
    match s.bpc with
    | .addressing op row _ => (s.acceptedReport op).awaitBeat op row 0 [] none
    | _ => s

def execSelectAccept (s : State) : StepResult := .next (takeSelectAccept s)

/-- SELECT_REJECT (R106): the transaction ends REJECTED (R118), a probe with no module (R115). -/
def takeSelectReject (s : State) : State :=
  s.unlessReset fun s =>
    match s.bpc with
    | .addressing op _ _ => s.endFailed op .rejected
    | _ => s

def execSelectReject (s : State) : StepResult := .next (takeSelectReject s)

/-- SELECT_WAIT (R106, R107): the phase timer restarts with the selection then in force. -/
def takeSelectWait (s : State) : State :=
  s.unlessReset fun s =>
    match s.bpc with
    | .addressing op row _ => { s with bpc := .addressing op row s.phaseEnd }
    | _ => s

def execSelectWait (s : State) : StepResult := .next (takeSelectWait s)

/-- PHASE_TIMER_EXPIRY (R113): the transaction ends with TIMEOUT; without effect while IDLE, and while another timer ends
earlier (log 4). -/
def takePhaseTimerExpiry (s : State) : State :=
  s.unlessReset fun s =>
    match s.bpc with
    | .addressing op _ d => s.atTimerEnd d (·.endFailed op .timeout)
    | .transfer op _ d _ _ => s.atTimerEnd d (·.endFailed op .timeout)
    | .idle => s

def execPhaseTimerExpiry (s : State) : StepResult := .next (takePhaseTimerExpiry s)

/-! ### Write beats and runs -/

/-- Whether a posted entry continues a run of a link (R92): its slot is the run's and ONLINE, its address follows the
current write, its width is the run's, its chaining field is yes, and it lies in the row where the run began. -/
def State.joinsRun (s : State) (cur : PostedEntry) (row : ModAddr) (e : PostedEntry) : Bool :=
  e.slot = cur.slot ∧ s.online e.slot
    ∧ e.addr.toNat = cur.addr.toNat + cur.len
    ∧ e.width = cur.width
    ∧ e.chaining
    ∧ row.toNat ≤ e.addr.toNat ∧ e.addr.toNat + e.len ≤ row.toNat + 64

/-- The continuation of a run, if its conditions hold for the head of the link's queue: the entry and the rest of the
queue (R92). A write whose chaining field is no takes part in no run (R93). -/
def State.continuation (s : State) (n : Link) (cur : PostedEntry) (row : Option ModAddr) :
    Option (PostedEntry × List WorkEntry) :=
  match row, s.queue n with
  | some row, .posted e :: rest => if cur.chaining && s.joinsRun cur row e then some (e, rest) else none
  | _, _ => none

/-- The last beat of a posted write is accepted: the run continues with the head of the link's queue, whose credit is
reported (R93, R116), or the transaction ends with success (R118, R120). -/
def State.endPosted (s : State) (n : Link) (cur : PostedEntry) (row : Option ModAddr) : State :=
  match s.continuation n cur row with
  | some (e, rest) =>
    let op := Operation.postedWrite n e
    ((s.setQueue n rest).report n 1).awaitBeat op row 0 [] (some op.beats)
  | none => s.toIdle

/-- A write beat is accepted (R109). -/
def State.acceptWriteBeat (s : State) (op : Operation) (row : Option ModAddr) (i : Nat) : State :=
  if i + 1 < op.beats then s.awaitBeat op row (i + 1) [] none
  else
    match op with
    | .postedWrite n e => s.endPosted n e row
    | .ticketed t _ _ => (s.complete t .done).toIdle
    | .probe _ => s

/-- WRITE_BEAT_ACCEPT (R109, R116): ignored unless a write beat awaits its answer (R112; log 12). -/
def takeWriteBeatAccept (s : State) : State :=
  s.unlessReset fun s =>
    match s.bpc with
    | .transfer op row _ i _ => if op.isWrite then s.acceptWriteBeat op row i else s
    | _ => s

def execWriteBeatAccept (s : State) : StepResult := .next (takeWriteBeatAccept s)

/-- WRITE_BEAT_ERROR (R109): the transaction ends DATA_ERROR. -/
def takeWriteBeatError (s : State) : State :=
  s.unlessReset fun s =>
    match s.bpc with
    | .transfer op _ _ _ _ => if op.isWrite then s.endFailed op .dataError else s
    | _ => s

def execWriteBeatError (s : State) : StepResult := .next (takeWriteBeatError s)

/-! ### Read beats -/

/-- The end of a read or probe whose last beat is sound (R111, R115, R121). -/
def State.endRead (s : State) (op : Operation) (bytes : List Byte) (lanes : BitVec 32) : State :=
  match op with
  | .probe i => (s.probeResult i (if lanes = 0 then none else some lanes)).toIdle
  | .ticketed t _ _ => (s.complete t (.data bytes)).toIdle
  | .postedWrite _ _ => s

/-- A read beat with its lanes: the parity of every lane in use is checked, the bytes are kept in module address order
(R108, R111). -/
def State.takeReadBeat (s : State) (op : Operation) (row : Option ModAddr) (i : Nat) (got : List Byte)
    (lanes : BitVec 32) (parity : BitVec 4) : State :=
  let used := (laneList lanes parity).take op.width.toNat
  if used.all laneSound then
    let got := got ++ used.map (·.1)
    if i + 1 < op.beats then s.awaitBeat op row (i + 1) got none else s.endRead op got lanes
  else s.endFailed op .dataError

/-- READ_BEAT_DATA (R111, R115): ignored unless a read beat awaits its answer (R112; log 12). -/
def takeReadBeatData (lanes : BitVec 32) (parity : BitVec 4) (s : State) : State :=
  s.unlessReset fun s =>
    match s.bpc with
    | .transfer op row _ i got => if op.isWrite then s else s.takeReadBeat op row i got lanes parity
    | _ => s

def execReadBeatData (lanes : BitVec 32) (parity : BitVec 4) (s : State) : StepResult :=
  .next (takeReadBeatData lanes parity s)

/-- READ_BEAT_ERROR (R111): the transaction ends DATA_ERROR, a probe with no module (R115). -/
def takeReadBeatError (s : State) : State :=
  s.unlessReset fun s =>
    match s.bpc with
    | .transfer op _ _ _ _ => if op.isWrite then s else s.endFailed op .dataError
    | _ => s

def execReadBeatError (s : State) : StepResult := .next (takeReadBeatError s)

/-! ### Head disposal -/

/-- The reason with which work for a slot that is not ONLINE is disposed of (R87, R88, R127). -/
def SlotState.disposalReason : SlotState → FailReason
  | .fenced _ => .fenced
  | .offline => .offline
  | .probing _ _ => .offline
  | .online => .offline

/-- Disposal of the head of a link's queue (R87, R88): the entry leaves; a ticket completes with the reason; a posted
write counts as lost, raises DOWNSTREAM_FAULT and reports its credit. -/
def State.disposeHead (s : State) (n : Link) (e : WorkEntry) (rest : List WorkEntry) (i : Fin 16) : State :=
  let why := (s.slot i).state.disposalReason
  let s1 := s.setQueue n rest
  match e with
  | .ticketed t => s1.complete t (.fail why)
  | .posted p =>
    ((s1.updSlot i fun r => { r with postedLost := rise r.postedLost }).raise
      (.downstreamFault n i why p.upstream)).report n 1

/-- HEAD_DISPOSAL (R86) of one work queue: taken when its head names a slot that is not ONLINE (log 23). -/
def takeHeadDisposal (n : Link) (s : State) : State :=
  s.unlessReset fun s =>
    match s.queue n with
    | e :: rest =>
      match s.entrySlot e with
      | some i => if s.online i then s else s.disposeHead n e rest i
      | none => s
    | [] => s

def execHeadDisposal (n : Link) (s : State) : StepResult := .next (takeHeadDisposal n s)

/-! ### Arbiter -/

/-- Whether a source is eligible (R89). -/
def State.eligible (s : State) : Source → Bool
  | .wq0 => s.headEligible .l0
  | .wq1 => s.headEligible .l1
  | .prq => !s.probes.isEmpty

/-- The source that follows in the cyclic order WQ0, WQ1, PRQ (R90). -/
def Source.next : Source → Source
  | .wq0 => .wq1
  | .wq1 => .prq
  | .prq => .wq0

/-- The first eligible source, beginning with the one the pointer names (R90). -/
def State.chosen (s : State) : Option Source :=
  [s.pointer, s.pointer.next, s.pointer.next.next].find? s.eligible

/-- The grant of the head of a link's queue (R38, R90, R97, R105). -/
def State.grantQueue (s : State) (n : Link) : State :=
  match s.queue n with
  | .posted e :: rest => ((s.setQueue n rest).report n 1).startSelect (.postedWrite n e)
  | .ticketed t :: rest =>
    match (s.ticket t).st with
    | .queued r d m => ((s.setQueue n rest).setTicketState t (.issued r d m)).startSelect (.ticketed t r d)
    | _ => s
  | [] => s

/-- The slot of a granted probe: its probe stage becomes ISSUED (R129). -/
def Slot.issueProbe (r : Slot) : Slot :=
  match r.state with
  | .probing _ p => { r with state := .probing .issued p }
  | _ => r

/-- The grant of the head of the probe queue (R90, R102, R129). -/
def State.grantProbe (s : State) : State :=
  match s.probes with
  | i :: rest => (({ s with probes := rest } : State).updSlot i Slot.issueProbe).startSelect (.probe i)
  | [] => s

/-- A grant to a source (R90). -/
def State.grant (s : State) (src : Source) : State :=
  let s1 := { s with pointer := src.next }
  match src with
  | .wq0 => s1.grantQueue .l0
  | .wq1 => s1.grantQueue .l1
  | .prq => s1.grantProbe

/-- ARBITER_GRANT (R89, R90): taken when the controller is IDLE and a source is eligible (log 23). -/
def takeArbiterGrant (s : State) : State :=
  s.unlessReset fun s =>
    match s.bpc, s.chosen with
    | .idle, some src => s.grant src
    | _, _ => s

def execArbiterGrant (s : State) : StepResult := .next (takeArbiterGrant s)

end Sys2Proof.Machine
end

