-- ==== Sys2Proof/Machine/LinkPorts.lean ====
section
/-! DEFINITION. Rack link ports (chapter 9) and full reset: the meanings of FULL_RESET, LOSS_OF_SIGNAL, HELLO, FRAME_DROP,
OUTBOUND_FRAME_SENT, FRAME_WAITS_AT_RECEIVER and TRANSMISSION_BEGINS. -/

namespace Sys2Proof.Machine

/-! ### Full reset -/

/-- Full reset (R1): every block takes its full-reset values. The input levels, the time, the free counter and the
command queue are no block's state and stay (log 19). -/
def State.fullReset (s : State) : State :=
  { State.reset with
    now := s.now, resetPin := s.resetPin, losPin := s.losPin, alertPin := s.alertPin, free := s.free,
    pending := s.pending }

/-- FULL_RESET (R1): power-on, and the change of RESET from deasserted to asserted, are full reset. An assertion of an
asserted input is no change, and a deassertion is no event: the level is recorded. -/
def takeFullReset (cause : ResetCause) (s : State) : State :=
  match cause with
  | .powerOn => s.fullReset
  | .resetInput true => if s.resetPin then s else { s.fullReset with resetPin := true }
  | .resetInput false => { s with resetPin := false }

def execFullReset (cause : ResetCause) (s : State) : StepResult := .next (takeFullReset cause s)

/-! ### Link reset and coming UP -/

/-- Step 1 of a link reset: the outbound list keeps only a frame whose transmission has begun (R190). -/
def Port.discardOutbound (p : Port) : Port :=
  { p with outbound := if p.transmitting then p.outbound.take 1 else [] }

/-- Step 2 at the port: the enable set is emptied (R154, R190). -/
def Port.clearEnables (p : Port) : Port := { p with enables := 0 }

/-- Step 5 of a link reset: granted and owed become 0 and the link goes DOWN (R190). -/
def Port.takeDown (p : Port) : Port := { p with granted := 0, owed := 0, up := false }

/-- Step 2 at the notice unit: the sent flag of a link is cleared for every kind (R154). -/
def State.clearSent (s : State) (n : Link) : State :=
  { s with kinds := Vector.ofFn fun i => { s.kinds[i] with sent := s.kinds[i].sent.set n false } }

/-- A ticket under a link reset of a link (R54): its owner's QUEUED and READY tickets are freed, its ISSUED ticket is
detached, a DETACHED one and the other link's tickets are unchanged. -/
def Ticket.linkReset (k : Ticket) (n : Link) : Ticket :=
  match k.st with
  | .queued r _ _ => if r.owner = n then k.freed else k
  | .ready r _ _ => if r.owner = n then k.freed else k
  | .issued r _ _ => if r.owner = n then { k with st := .detached r } else k
  | .detached _ => k
  | .free => k

/-- Step 3 of a link reset: the link's tickets, and the ticketed entries of its queue (R54, R99). -/
def State.resetTickets (s : State) (n : Link) : State :=
  { s with
    tickets := Vector.ofFn fun t => s.tickets[t].linkReset n
    queues := s.queues.set n ((s.queues.get n).filter (·.isPosted)) }

/-- Step 4 of a link reset: a lease that the link holds is released (R169). -/
def State.releaseLease (s : State) (n : Link) : State :=
  match s.lease with
  | some l => if l.holder = n then s.loseLease l .released else s
  | none => s

/-- A link reset of a link up to its step 5, which leaves the link DOWN (R190). -/
def State.linkReset (s : State) (n : Link) : State :=
  (((((s.updPort n Port.discardOutbound).updPort n Port.clearEnables).clearSent n).resetTickets n).releaseLease
    n).updPort n Port.takeDown

/-- The port that comes UP, with the credits its WELCOME grants (R188). -/
def Port.welcome (p : Port) (n : Link) (credits : Nat) : Port :=
  { p with up := true, granted := credits, owed := 0, outbound := p.outbound ++ [.welcome n credits] }

/-- A link comes UP (R188, R189): the WELCOME grants 16 credits less the link's queued posted entries, then the emission
test is made for every kind. -/
def State.bringUp (s : State) (n : Link) : State :=
  (s.updPort n fun p => p.welcome n (Config.credits - s.postedCount n)).emitAll n

/-! ### Inputs and frames of the port -/

/-- LOSS_OF_SIGNAL (R191): the change of LOSn from deasserted to asserted is a link reset that leaves the link DOWN, also
when it is DOWN already. A deassertion is no event, and while RESET is asserted no assertion is taken (R1): the level
is recorded. -/
def takeLossOfSignal (n : Link) (asserted : Bool) (s : State) : State :=
  let s1 := { s with losPin := s.losPin.set n asserted }
  if asserted ∧ s.losPin.get n = false ∧ s.resetPin = false then s1.linkReset n else s1

def execLossOfSignal (n : Link) (asserted : Bool) (s : State) : StepResult := .next (takeLossOfSignal n asserted s)

/-- HELLO (R187, R189, R190): it counts in frames taken in either state; a link that is UP is reset first; the link
comes UP. -/
def takeHello (n : Link) (s : State) : State :=
  let s1 := s.updPort n fun p => { p with framesTaken := rise p.framesTaken }
  if (s.port n).up then (s1.linkReset n).bringUp n else s1.bringUp n

def execHello (n : Link) (s : State) : StepResult :=
  .next (s.arrive n (encodeFrame (.hello n)) (takeHello n))

/-- FRAME_DROP (R186): the frame is dropped for the first check it fails. A frame that fails none is no event of this row
(log 10). -/
def takeFrameDrop (n : Link) (f : RawFrame) (s : State) : State :=
  match frameFault f with
  | some why => s.dropFrame n why
  | none => s

def execFrameDrop (n : Link) (f : RawFrame) (s : State) : StepResult :=
  .next (s.arrive n (encodeFrame (.frameDrop n f)) (takeFrameDrop n f))

/-- FRAME_WAITS_AT_RECEIVER (R185): the frame joins the waiting frames, or is discarded when the receiver can hold no
more. On a port that does not withhold taking it stands at the receiver until LPn takes it next (log 9). -/
def takeFrameWaits (n : Link) (f : RawFrame) (s : State) : State :=
  s.arrive n (some f) fun s => s.updPort n fun p => { p with waiting := p.waiting ++ [f] }

def execFrameWaitsAtReceiver (n : Link) (f : RawFrame) (s : State) : StepResult := .next (takeFrameWaits n f s)

/-! ### Outbound frames -/

/-- Whether a port can begin to send: the link is UP and free and a frame is in the list (R195). -/
def Port.canBegin (p : Port) : Bool := p.up && !p.transmitting && !p.outbound.isEmpty

/-- TRANSMISSION_BEGINS (R195): the head of the outbound list is in transmission from then on (log 13). -/
def takeTransmissionBegins (n : Link) (s : State) : State :=
  s.unlessReset fun s => s.updPort n fun p => if p.canBegin then { p with transmitting := true } else p

def execTransmissionBegins (n : Link) (s : State) : StepResult := .next (takeTransmissionBegins n s)

/-- OUTBOUND_FRAME_SENT (R195): the frame in transmission has left the list, also on a link that a link reset has taken
DOWN meanwhile (R190; log 13). -/
def takeOutboundFrameSent (n : Link) (s : State) : State :=
  s.unlessReset fun s =>
    s.updPort n fun p => if p.transmitting then { p with outbound := p.outbound.drop 1, transmitting := false } else p

def execOutboundFrameSent (n : Link) (s : State) : StepResult := .next (takeOutboundFrameSent n s)

end Sys2Proof.Machine
end

