-- ==== Sys2Proof/Machine/Management.lean ====
section
/-! DEFINITION. Management lease and command set (chapter 8): the meanings of MGMT_UNKNOWN_COMMAND, LEASE_TAKE,
LEASE_RENEW, LEASE_DROP, LEASE_EXPIRY, IDENTIFY, COUNTERS_READ, COUNTERS_CLEAR and GATE_RESET. -/

namespace Sys2Proof.Machine

/-- MGMT_UNKNOWN_COMMAND (R159): UNKNOWN_COMMAND, whatever the operand bytes. -/
def takeMgmtUnknown (n : Link) (tag code : Byte) (s : State) : State :=
  s.dispatch n fun s => (s.refuse .unknownCommand).reply n tag code

def execMgmtUnknownCommand (n : Link) (tag code : Byte) (ops : List Byte) (s : State) : StepResult :=
  .next (s.arrive n (encodeFrame (.mgmtUnknownCommand n tag code ops)) (takeMgmtUnknown n tag code))

/-! ### The lease -/

/-- The time from now to an expiry in units of 100 ms, rounded up, from 1 to 255 (R164; log 14). -/
def State.timeLeft (s : State) (expiry : Nat) : Nat :=
  max 1 (min 255 ((expiry - s.now + (Config.leaseUnit - 1)) / Config.leaseUnit))

/-- The expiry of a lease of a duration taken or renewed now (R163). -/
def State.leaseEnd (s : State) (duration : Byte) : Nat := s.now + duration.toNat * Config.leaseUnit

/-- The lease HELD by a link from now on for a duration (R163, R164). -/
def State.hold (s : State) (n : Link) (duration : Byte) : State :=
  { s with lease := some ⟨n, duration, s.leaseEnd duration⟩ }

/-- LEASE_TAKE at its owner (R163, R164). -/
def ownerLeaseTake (n : Link) (ops : List Byte) (s : State) : MgmtAnswer :=
  match ops with
  | [d] =>
    if d = 0 then s.refuse .badValue
    else
      match s.lease with
      | none => ((s.hold n d).raise (.leaseChange .taken n d)).accept [n.num, d]
      | some l =>
        if l.holder = n then (s.hold n d).accept [n.num, d]
        else ⟨.leaseHeld, [l.holder.num, byte (s.timeLeft l.expiry)], s⟩
  | _ => s.refuse .badValue

def execLeaseTake (n : Link) (tag : Byte) (ops : List Byte) (s : State) : StepResult :=
  .next (s.arrive n (encodeFrame (.leaseTake n tag ops)) fun s =>
    s.manage n tag Config.codeLeaseTake 1 false ops (ownerLeaseTake n))

/-- LEASE_RENEW at its owner, from the holder (R165). -/
def ownerLeaseRenew (_ops : List Byte) (s : State) : MgmtAnswer :=
  match s.lease with
  | some l => (s.hold l.holder l.duration).accept [l.duration]
  | none => s.refuse .notOwner

def execLeaseRenew (n : Link) (tag : Byte) (ops : List Byte) (s : State) : StepResult :=
  .next (s.arrive n (encodeFrame (.leaseRenew n tag ops)) fun s =>
    s.manage n tag Config.codeLeaseRenew 0 true ops ownerLeaseRenew)

/-- LEASE_DROP at its owner, from the holder (R166, R167). -/
def ownerLeaseDrop (_ops : List Byte) (s : State) : MgmtAnswer :=
  match s.lease with
  | some l => (s.loseLease l .dropped).accept []
  | none => s.refuse .notOwner

def execLeaseDrop (n : Link) (tag : Byte) (ops : List Byte) (s : State) : StepResult :=
  .next (s.arrive n (encodeFrame (.leaseDrop n tag ops)) fun s =>
    s.manage n tag Config.codeLeaseDrop 0 true ops ownerLeaseDrop)

/-- LEASE_EXPIRY (R168): the lease is lost with event EXPIRED; without effect on a FREE lease, and while another timer ends
earlier (log 4). -/
def takeLeaseExpiry (s : State) : State :=
  s.unlessReset fun s =>
    match s.lease with
    | some l => s.atTimerEnd l.expiry (·.loseLease l .expired)
    | none => s

def execLeaseExpiry (s : State) : StepResult := .next (takeLeaseExpiry s)

/-! ### IDENTIFY and counters -/

/-- The nine result bytes of IDENTIFY (R173, R203). -/
def identity (n : Link) : List Byte :=
  be16 Config.vendorCode ++ be16 Config.partCode
    ++ [Config.revision, n.num, Config.windowIndices, Config.ticketCount, Config.slotCount]

/-- IDENTIFY at its owner (R173). -/
def ownerIdentify (n : Link) (_ops : List Byte) (s : State) : MgmtAnswer := s.accept (identity n)

def execIdentify (n : Link) (tag : Byte) (ops : List Byte) (s : State) : StepResult :=
  .next (s.arrive n (encodeFrame (.identify n tag ops)) fun s =>
    s.manage n tag Config.codeIdentify 0 false ops (ownerIdentify n))

/-- The counters of a group in the order of the table of R174. -/
def State.counters (s : State) : CounterGroup → List Counter
  | .link n =>
    [(s.port n).framesTaken, (s.port n).shapeDrops, (s.port n).downDrops, (s.port n).overruns,
     (s.adm.get n).busy, (s.adm.get n).accessFaults, s.flushed.get n]
  | .slot i => [(s.slot i).timeouts, (s.slot i).rejects, (s.slot i).dataErrors, (s.slot i).postedLost]
  | .gate => [s.expired]

/-- COUNTERS_READ at its owner (R175). -/
def ownerCountersRead (ops : List Byte) (s : State) : MgmtAnswer :=
  match ops with
  | [ty, num] =>
    match groupOf ty num with
    | .ok g => s.accept ((s.counters g).flatMap be32)
    | .error st => s.refuse st
  | _ => s.refuse .badValue

def execCountersRead (n : Link) (tag : Byte) (ops : List Byte) (s : State) : StepResult :=
  .next (s.arrive n (encodeFrame (.countersRead n tag ops)) fun s =>
    s.manage n tag Config.codeCountersRead 2 false ops ownerCountersRead)

/-- Every counter of a group set to 0, whichever block holds it (R176). -/
def State.clearCounters (s : State) : CounterGroup → State
  | .link n =>
    ((s.updPort n fun p => { p with framesTaken := 0, shapeDrops := 0, downDrops := 0, overruns := 0 }).updAdm n
      fun _ => ⟨0, 0⟩).updFlushed n fun _ => 0
  | .slot i => s.updSlot i fun r => { r with timeouts := 0, rejects := 0, dataErrors := 0, postedLost := 0 }
  | .gate => { s with expired := 0 }

/-- COUNTERS_CLEAR at its owner (R176). -/
def ownerCountersClear (ops : List Byte) (s : State) : MgmtAnswer :=
  match ops with
  | [ty, num] =>
    match groupOf ty num with
    | .ok g => (s.clearCounters g).accept []
    | .error st => s.refuse st
  | _ => s.refuse .badValue

def execCountersClear (n : Link) (tag : Byte) (ops : List Byte) (s : State) : StepResult :=
  .next (s.arrive n (encodeFrame (.countersClear n tag ops)) fun s =>
    s.manage n tag Config.codeCountersClear 2 true ops ownerCountersClear)

/-! ### Gate reset -/

/-- Step 1 for one ticket (R55, R178): a DIRECT ticket is answered FAIL(FLUSHED) and its hold timer is removed. -/
def State.flushTicket (s : State) (t : Fin 24) : State :=
  match (s.ticket t).st with
  | .queued r d (.direct _) =>
    (s.form r.owner (.result r.tag (.fail .flushed))).setTicketState t (.queued r d .deferred)
  | .issued r d (.direct _) =>
    (s.form r.owner (.result r.tag (.fail .flushed))).setTicketState t (.issued r d .deferred)
  | _ => s

/-- Step 1 (R178): the DIRECT tickets in rising ticket number. -/
def State.flushDirect (s : State) : State := ticketNumbers.foldl State.flushTicket s

/-- Step 2 (R155, R178): every kind becomes CLEAR and every sent flag is cleared. -/
def State.clearNotices (s : State) : State := { s with kinds := .replicate 8 .reset }

/-- A ticket under a gate reset, once step 1 has been made (R55): QUEUED and READY tickets are freed, the ISSUED ticket
is detached. -/
def Ticket.gateReset (k : Ticket) : Ticket :=
  match k.st with
  | .queued _ _ _ => k.freed
  | .ready _ _ _ => k.freed
  | .issued r _ _ => { k with st := .detached r }
  | .detached _ => k
  | .free => k

/-- A counter that rises a number of times. -/
def riseBy : Nat → Counter → Counter
  | 0, c => c
  | k + 1, c => riseBy k (rise c)

/-- Step 3 for the queue of a link (R100): it is emptied, its posted entries count as flushed, and their credits are
reported in one report. -/
def State.emptyQueue (s : State) (n : Link) : State :=
  let count := s.postedCount n
  ((s.updFlushed n (riseBy count)).setQueue n []).reportCount n count

/-- Step 3 (R55, R100, R178): the tickets and the work queues. -/
def State.resetWork (s : State) : State :=
  (({ s with tickets := Vector.ofFn fun t => s.tickets[t].gateReset } : State).emptyQueue .l0).emptyQueue .l1

/-- Step 4 for one probe entry (R142): its slot returns to its prior state with SLOT_CHANGE cause RESET. -/
def State.returnProbe (s : State) (i : Fin 16) : State :=
  match (s.slot i).state with
  | .probing .queued p => s.changeSlot i { s.slot i with state := p.restored } .reset
  | _ => s

/-- Step 4 (R100, R142, R178): the probe queue, head first. -/
def State.resetProbes (s : State) : State :=
  s.probes.foldl State.returnProbe { s with probes := [] }

/-- The gate reset up to its step 5 (R178): the arbiter's pointer names WQ0 at the end. -/
def State.gateReset (s : State) : State :=
  { s.flushDirect.clearNotices.resetWork.resetProbes with pointer := .wq0 }

/-- GATE_RESET at its owner (R177, R178). -/
def ownerGateReset (_ops : List Byte) (s : State) : MgmtAnswer := s.gateReset.accept []

def execGateReset (n : Link) (tag : Byte) (ops : List Byte) (s : State) : StepResult :=
  .next (s.arrive n (encodeFrame (.gateReset n tag ops)) fun s =>
    s.manage n tag Config.codeGateReset 0 true ops ownerGateReset)

end Sys2Proof.Machine
end

