-- ==== Sys2Proof/Machine/Notices.lean ====
section
/-! DEFINITION. Notices (chapter 7): the meanings of NOTICE_ENABLE, NOTICE_ACK and NOTICE_READ. -/

namespace Sys2Proof.Machine

/-- NOTICE_ENABLE at its owner (R147): the set replaces the sender's enable set, then the emission test is made on the
sender's link for every kind. -/
def ownerNoticeEnable (n : Link) (ops : List Byte) (s : State) : MgmtAnswer :=
  match ops with
  | [set] => ((s.updPort n fun p => { p with enables := set }).emitAll n).accept [set]
  | _ => s.refuse .badValue

def execNoticeEnable (n : Link) (tag : Byte) (ops : List Byte) (s : State) : StepResult :=
  .next (s.arrive n (encodeFrame (.noticeEnable n tag ops)) fun s =>
    s.manage n tag Config.codeNoticeEnable 1 false ops (ownerNoticeEnable n))

/-- NOTICE_ACK at its owner (R151). -/
def ownerNoticeAck (ops : List Byte) (s : State) : MgmtAnswer :=
  match ops with
  | [b] =>
    match kindOf b with
    | none => s.refuse .badValue
    | some k =>
      match (s.kind k).latch with
      | .clear => s.refuse .notLatched
      | .latched c _ => (s.updKind k fun _ => .reset).accept [c]
  | _ => s.refuse .badValue

def execNoticeAck (n : Link) (tag : Byte) (ops : List Byte) (s : State) : StepResult :=
  .next (s.arrive n (encodeFrame (.noticeAck n tag ops)) fun s =>
    s.manage n tag Config.codeNoticeAck 1 false ops ownerNoticeAck)

/-- The 14 bytes of NOTICE_READ (R152, R203): state, count, detail present, detail, both sent flags, and whether
the sender's link enables the kind. -/
def State.noticeResults (s : State) (n : Link) (k : NoticeKind) : List Byte :=
  let r := s.kind k
  [r.latch.code, r.latch.count, r.latch.code] ++ r.latch.detailBytes
    ++ [flagByte r.sent.l0, flagByte r.sent.l1, flagByte (enabledIn (s.port n).enables k)]

/-- NOTICE_READ at its owner (R152). -/
def ownerNoticeRead (n : Link) (ops : List Byte) (s : State) : MgmtAnswer :=
  match ops with
  | [b] =>
    match kindOf b with
    | none => s.refuse .badValue
    | some k => s.accept (s.noticeResults n k)
  | _ => s.refuse .badValue

def execNoticeRead (n : Link) (tag : Byte) (ops : List Byte) (s : State) : StepResult :=
  .next (s.arrive n (encodeFrame (.noticeRead n tag ops)) fun s =>
    s.manage n tag Config.codeNoticeRead 1 false ops (ownerNoticeRead n))

end Sys2Proof.Machine
end

