-- ==== Sys2Proof/Machine/Slots.lean ====
section
/-! DEFINITION. The slot table (chapter 6): the meanings of SLOT_PROBE, SLOT_FENCE, SET_FAULT_LIMIT, SLOT_STATUS and
ALERT_ASSERTION. -/

namespace Sys2Proof.Machine

/-- SLOT_PROBE at its owner (R128): an OFFLINE or FENCED slot becomes PROBING with its probe QUEUED at the tail of the
probe queue. -/
def ownerSlotProbe (ops : List Byte) (s : State) : MgmtAnswer :=
  match ops with
  | [b] =>
    match slotOf b with
    | none => s.refuse .badSlot
    | some i =>
      match (s.slot i).state.prior? with
      | none => s.refuse .slotState
      | some prior =>
        let s1 : State := { s with probes := s.probes ++ [i] }
        (s1.changeSlot i { s.slot i with state := .probing .queued prior } .probe).accept []
  | _ => s.refuse .badValue

def execSlotProbe (n : Link) (tag : Byte) (ops : List Byte) (s : State) : StepResult :=
  .next (s.arrive n (encodeFrame (.slotProbe n tag ops)) fun s =>
    s.manage n tag Config.codeSlotProbe 1 true ops ownerSlotProbe)

/-- A slot under SLOT_FENCE (R135): a queued probe leaves the probe queue; the slot becomes FENCED with cause COMMAND; a
SLOT_CHANGE follows unless it was FENCED. -/
def State.fence (s : State) (i : Fin 16) : State :=
  let r : Slot := { s.slot i with state := .fenced .command }
  match (s.slot i).state with
  | .fenced _ => s.updSlot i fun _ => r
  | .probing .queued _ => ({ s with probes := s.probes.filter (· ≠ i) } : State).changeSlot i r .command
  | .probing .issued _ => s.changeSlot i r .command
  | .offline => s.changeSlot i r .command
  | .online => s.changeSlot i r .command

/-- SLOT_FENCE at its owner (R135). -/
def ownerSlotFence (ops : List Byte) (s : State) : MgmtAnswer :=
  match ops with
  | [b] =>
    match slotOf b with
    | none => s.refuse .badSlot
    | some i => (s.fence i).accept [(s.slot i).state.name.code]
  | _ => s.refuse .badValue

def execSlotFence (n : Link) (tag : Byte) (ops : List Byte) (s : State) : StepResult :=
  .next (s.arrive n (encodeFrame (.slotFence n tag ops)) fun s =>
    s.manage n tag Config.codeSlotFence 1 true ops ownerSlotFence)

/-- SET_FAULT_LIMIT at its owner (R134). -/
def ownerSetFaultLimit (ops : List Byte) (s : State) : MgmtAnswer :=
  match ops with
  | [b] =>
    if 1 ≤ b.toNat ∧ b.toNat ≤ 7 then ({ s with faultLimit := b.toNat } : State).accept [b] else s.refuse .badValue
  | _ => s.refuse .badValue

def execSetFaultLimit (n : Link) (tag : Byte) (ops : List Byte) (s : State) : StepResult :=
  .next (s.arrive n (encodeFrame (.setFaultLimit n tag ops)) fun s =>
    s.manage n tag Config.codeSetFaultLimit 1 true ops ownerSetFaultLimit)

/-- The fenced cause, probe stage, prior state and prior fenced cause bytes of a slot state; 00h where absent (R203). -/
def SlotState.fieldBytes : SlotState → List Byte
  | .offline => [0, 0, 0, 0]
  | .online => [0, 0, 0, 0]
  | .fenced c => [c.code, 0, 0, 0]
  | .probing st .offline => [0, st.code, SlotCode.offline.code, 0]
  | .probing st (.fenced c) => [0, st.code, SlotCode.fenced.code, c.code]

/-- The 28 bytes of the slot status record (R140, R203). -/
def State.slotStatus (s : State) (i : Fin 16) : List Byte :=
  let r := s.slot i
  [r.state.name.code] ++ be32 r.identity ++ [byte r.consecutive] ++ r.state.fieldBytes
    ++ be32 r.timeouts ++ be32 r.rejects ++ be32 r.dataErrors ++ be32 r.postedLost
    ++ [flagByte s.alertPin[i], byte s.faultLimit]

/-- SLOT_STATUS at its owner (R140). -/
def ownerSlotStatus (ops : List Byte) (s : State) : MgmtAnswer :=
  match ops with
  | [b] =>
    match slotOf b with
    | none => s.refuse .badSlot
    | some i => s.accept (s.slotStatus i)
  | _ => s.refuse .badValue

def execSlotStatus (n : Link) (tag : Byte) (ops : List Byte) (s : State) : StepResult :=
  .next (s.arrive n (encodeFrame (.slotStatus n tag ops)) fun s =>
    s.manage n tag Config.codeSlotStatus 1 false ops ownerSlotStatus)

/-- ALERT_ASSERTION (R138): the change of an alert input from deasserted to asserted raises MODULE_ALERT when the slot is
ONLINE. A deassertion is no event, and while RESET is asserted no assertion is taken (R1): the level is recorded. -/
def takeAlertAssertion (i : Fin 16) (asserted : Bool) (s : State) : State :=
  let s1 := { s with alertPin := s.alertPin.set i asserted }
  if asserted ∧ s.alertPin[i] = false ∧ s.resetPin = false ∧ s.online i then
    s1.raise (.moduleAlert i (s.slot i).identity)
  else s1

def execAlertAssertion (i : Fin 16) (asserted : Bool) (s : State) : StepResult :=
  .next (takeAlertAssertion i asserted s)

end Sys2Proof.Machine
end

