-- ==== Sys2Proof/Machine/Tickets.lean ====
section
/-! DEFINITION. Tickets (chapter 2): the meanings of CLAIM, CANCEL, SET_QUOTA, SET_DISCARD, TICKET_SUMMARY, HOLD_EXPIRY and
DISCARD_EXPIRY. -/

namespace Sys2Proof.Machine

/-! ### Claims and cancels -/

/-- The ticket that a ticket id names: its number and generation in range and the generation the one the ticket holds
(R33). -/
def State.named (s : State) (number gen : Byte) : Option (Fin 24) :=
  match ticketOf number with
  | some t => if gen.toNat = (s.ticket t).gen.toNat then some t else none
  | none => none

/-- The answer to a claim or cancel that names no ticket it may act on (R33, R45, R47). -/
def State.answerNoTicket (s : State) (n : Link) (tag : Byte) : State := s.form n (.result tag (.fail .noTicket))

/-- A claim of the ticket that its id names (R45). -/
def State.claimTicket (s : State) (n : Link) (tag : Byte) (t : Fin 24) : State :=
  match (s.ticket t).st with
  | .ready r res _ =>
    if r.owner = n then (s.form n (.result tag res.answer)).freeTicket t else s.answerNoTicket n tag
  | .queued r _ .deferred =>
    if r.owner = n then s.form n (.result tag (.pending t (s.ticket t).gen)) else s.answerNoTicket n tag
  | .issued r _ .deferred =>
    if r.owner = n then s.form n (.result tag (.pending t (s.ticket t).gen)) else s.answerNoTicket n tag
  | .queued _ _ (.direct _) => s.answerNoTicket n tag
  | .issued _ _ (.direct _) => s.answerNoTicket n tag
  | .detached _ => s.answerNoTicket n tag
  | .free => s.answerNoTicket n tag

/-- CLAIM (R33, R45, R187). -/
def takeClaim (n : Link) (tag number gen : Byte) (s : State) : State :=
  s.dispatch n fun s =>
    match s.named number gen with
    | some t => s.claimTicket n tag t
    | none => s.answerNoTicket n tag

def execClaim (n : Link) (tag number gen : Byte) (s : State) : StepResult :=
  .next (s.arrive n (encodeFrame (.claim n tag number gen)) (takeClaim n tag number gen))

/-- A cancel of the ticket that its id names (R47). -/
def State.cancelTicket (s : State) (n : Link) (tag : Byte) (t : Fin 24) : State :=
  match (s.ticket t).st with
  | .queued r _ .deferred =>
    if r.owner = n then ((s.dropEntry n t).freeTicket t).form n (.result tag .cancelled) else s.answerNoTicket n tag
  | .issued r _ .deferred =>
    if r.owner = n then (s.setTicketState t (.detached r)).form n (.result tag .detached) else s.answerNoTicket n tag
  | .ready r _ _ =>
    if r.owner = n then (s.freeTicket t).form n (.result tag .discarded) else s.answerNoTicket n tag
  | .queued _ _ (.direct _) => s.answerNoTicket n tag
  | .issued _ _ (.direct _) => s.answerNoTicket n tag
  | .detached _ => s.answerNoTicket n tag
  | .free => s.answerNoTicket n tag

/-- CANCEL (R33, R47, R187). -/
def takeCancel (n : Link) (tag number gen : Byte) (s : State) : State :=
  s.dispatch n fun s =>
    match s.named number gen with
    | some t => s.cancelTicket n tag t
    | none => s.answerNoTicket n tag

def execCancel (n : Link) (tag number gen : Byte) (s : State) : StepResult :=
  .next (s.arrive n (encodeFrame (.cancel n tag number gen)) (takeCancel n tag number gen))

/-! ### Settings and summary -/

/-- SET_QUOTA at its owner (R35). -/
def ownerSetQuota (ops : List Byte) (s : State) : MgmtAnswer :=
  match ops with
  | [l, q] =>
    match linkOf l with
    | some m =>
      if 1 ≤ q.toNat ∧ q.toNat ≤ 24 then ({ s with quota := s.quota.set m q.toNat } : State).accept [q]
      else s.refuse .badValue
    | none => s.refuse .badValue
  | _ => s.refuse .badValue

def execSetQuota (n : Link) (tag : Byte) (ops : List Byte) (s : State) : StepResult :=
  .next (s.arrive n (encodeFrame (.setQuota n tag ops)) fun s =>
    s.manage n tag Config.codeSetQuota 2 true ops ownerSetQuota)

/-- SET_DISCARD at its owner (R49). -/
def ownerSetDiscard (ops : List Byte) (s : State) : MgmtAnswer :=
  match ops with
  | [b] =>
    match discardOf b with
    | some d => ({ s with discard := d } : State).accept [d.code]
    | none => s.refuse .badValue
  | _ => s.refuse .badValue

def execSetDiscard (n : Link) (tag : Byte) (ops : List Byte) (s : State) : StepResult :=
  .next (s.arrive n (encodeFrame (.setDiscard n tag ops)) fun s =>
    s.manage n tag Config.codeSetDiscard 1 true ops ownerSetDiscard)

/-- Whether a ticket is in the named state and owned by a link (R53). -/
def TicketState.isQueuedOf (st : TicketState) (n : Link) : Bool :=
  match st with
  | .queued r _ _ => r.owner = n
  | _ => false

def TicketState.isIssuedOf (st : TicketState) (n : Link) : Bool :=
  match st with
  | .issued r _ _ => r.owner = n
  | _ => false

def TicketState.isReadyOf (st : TicketState) (n : Link) : Bool :=
  match st with
  | .ready r _ _ => r.owner = n
  | _ => false

def TicketState.isDetachedOf (st : TicketState) (n : Link) : Bool :=
  match st with
  | .detached r => r.owner = n
  | _ => false

/-- How many tickets are in a state that a test tells. -/
def State.countTickets (s : State) (p : TicketState → Bool) : Nat := ticketNumbers.countP fun t => p (s.ticket t).st

/-- The six bytes of TICKET_SUMMARY for one link (R53, R203). -/
def State.linkSummary (s : State) (n : Link) : List Byte :=
  [byte (s.countTickets (·.isQueuedOf n)), byte (s.countTickets (·.isIssuedOf n)),
   byte (s.countTickets (·.isReadyOf n)), byte (s.countTickets (·.isDetachedOf n)), byte (s.quota.get n),
   flagByte (s.holdsDirect n)]

/-- TICKET_SUMMARY at its owner (R53). -/
def ownerTicketSummary (_ops : List Byte) (s : State) : MgmtAnswer :=
  s.accept (s.linkSummary .l0 ++ s.linkSummary .l1 ++ [byte (s.countTickets fun st => st = .free)])

def execTicketSummary (n : Link) (tag : Byte) (ops : List Byte) (s : State) : StepResult :=
  .next (s.arrive n (encodeFrame (.ticketSummary n tag ops)) fun s =>
    s.manage n tag Config.codeTicketSummary 0 false ops ownerTicketSummary)

/-! ### Timers -/

/-- The hold timer of a DIRECT ticket has run out: PENDING on its owner link, and the ticket is DEFERRED (R39). -/
def State.expireHold (s : State) (t : Fin 24) (r : Request) (st : TicketState) : State :=
  (s.form r.owner (.result r.tag (.pending t (s.ticket t).gen))).setTicketState t st

/-- HOLD_EXPIRY (R39, R41): without effect on a ticket that is not DIRECT, and while another timer ends earlier (log 4). -/
def takeHoldExpiry (t : Fin 24) (s : State) : State :=
  s.unlessReset fun s =>
    match (s.ticket t).st with
    | .queued r d (.direct e) => s.atTimerEnd e (·.expireHold t r (.queued r d .deferred))
    | .issued r d (.direct e) => s.atTimerEnd e (·.expireHold t r (.issued r d .deferred))
    | _ => s

def execHoldExpiry (t : Fin 24) (s : State) : StepResult := .next (takeHoldExpiry t s)

/-- The deadline of a READY ticket has passed: the ticket is freed, counted and reported (R50, R51). -/
def State.expireReady (s : State) (t : Fin 24) (r : Request) : State :=
  ({ s.freeTicket t with expired := rise s.expired } : State).raise
    (.ticketExpired r.owner t (s.ticket t).gen r.upstream)

/-- DISCARD_EXPIRY (R50): without effect on a ticket without a deadline, and while another timer ends earlier (log 4). -/
def takeDiscardExpiry (t : Fin 24) (s : State) : State :=
  s.unlessReset fun s =>
    match (s.ticket t).st with
    | .ready r _ (some d) => s.atTimerEnd d (·.expireReady t r)
    | _ => s

def execDiscardExpiry (t : Fin 24) (s : State) : StepResult := .next (takeDiscardExpiry t s)

end Sys2Proof.Machine
end

