-- ==== Sys2Proof/Machine/Windows.lean ====
section
/-! DEFINITION. The window table (chapter 1) with the revocation pass of the work queues (4.5): the meanings of
WINDOW_STAGE, the two WINDOW_UNSTAGE rows, WINDOW_COMMIT, WINDOW_LOCK and WINDOW_READ. -/

namespace Sys2Proof.Machine

/-! ### Staging -/

/-- The narrowing test of a new record against the current active entry (R14). -/
def narrows (current : Option WindowRecord) (new : WindowRecord) : Bool :=
  match current with
  | none => false
  | some cur =>
    new.slot = cur.slot ∧ new.width = cur.width ∧ new.hold = cur.hold ∧ new.chaining = cur.chaining
      ∧ cur.base ≤ new.base ∧ new.limit ≤ cur.limit
      ∧ new.modBase.toNat = cur.modBase.toNat + (new.base.toNat - cur.base.toNat)
      ∧ new.rights.l0.containedIn cur.rights.l0 ∧ new.rights.l1.containedIn cur.rights.l1

/-- Whether the lock of an index lets a record be staged there (R12, R13, R24). -/
def State.stageAllowed (s : State) (i : Fin 32) (r : WindowRecord) : Bool :=
  match s.locks[i] with
  | .unlocked => true
  | .narrow => narrows s.active[i] r
  | .frozen => false

/-- The staging cell of an index takes a new content; nothing else changes (R12, R15, R16). -/
def State.setCell (s : State) (i : Fin 32) (c : StagingCell) : State := { s with staging := s.staging.set i c }

/-- WINDOW_STAGE at its owner: index, record, then the lock (R11 to R13). -/
def ownerWindowStage (ops : List Byte) (s : State) : MgmtAnswer :=
  match ops with
  | b :: rec =>
    match indexOf b with
    | none => s.refuse .badIndex
    | some i =>
      match recordOf rec with
      | none => s.refuse .badRecord
      | some r => if s.stageAllowed i r then (s.setCell i (.set r)).accept [] else s.refuse .locked
  | [] => s.refuse .badValue

def execWindowStage (n : Link) (tag : Byte) (ops : List Byte) (s : State) : StepResult :=
  .next (s.arrive n (encodeFrame (.windowStage n tag ops)) fun s =>
    s.manage n tag Config.codeWindowStage 18 true ops ownerWindowStage)

/-- WINDOW_UNSTAGE at its owner: index, clear flag, then for a set flag the lock (R11, R15, R16). -/
def ownerWindowUnstage (ops : List Byte) (s : State) : MgmtAnswer :=
  match ops with
  | [b, f] =>
    match indexOf b with
    | none => s.refuse .badIndex
    | some i =>
      match flagOf f with
      | none => s.refuse .badValue
      | some true => if s.locks[i] = .frozen then s.refuse .locked else (s.setCell i .clear).accept []
      | some false => (s.setCell i .none).accept []
  | _ => s.refuse .badValue

/-- WINDOW_UNSTAGE with the clear flag (R15). -/
def execWindowUnstageClear (n : Link) (tag : Byte) (ops : List Byte) (s : State) : StepResult :=
  .next (s.arrive n (encodeFrame (.windowUnstageClear n tag ops)) fun s =>
    s.manage n tag Config.codeWindowUnstage 2 true ops ownerWindowUnstage)

/-- WINDOW_UNSTAGE without the clear flag (R16; log 16). -/
def execWindowUnstageWithdraw (n : Link) (tag : Byte) (ops : List Byte) (s : State) : StepResult :=
  .next (s.arrive n (encodeFrame (.windowUnstageWithdraw n tag ops)) fun s =>
    s.manage n tag Config.codeWindowUnstage 2 true ops ownerWindowUnstage)

/-! ### Commit -/

/-- The resulting entry of an index if the commit succeeds (R17). -/
def State.resulting (s : State) (i : Fin 32) : Option WindowRecord :=
  match s.staging[i] with
  | .none => s.active[i]
  | .set r => some r
  | .clear => none

/-- The lock check of an index at commit (R18, R24). -/
def State.lockPasses (s : State) (i : Fin 32) : Bool :=
  match s.staging[i] with
  | .none => true
  | .clear => s.locks[i] ≠ .frozen
  | .set r => s.stageAllowed i r

/-- The overlap check of an index at commit (R18): its resulting range, if it has one, against every other. -/
def State.overlapPasses (s : State) (i : Fin 32) : Bool :=
  match s.resulting i with
  | none => true
  | some r =>
    windowIndices.all fun j =>
      j = i || match s.resulting j with
        | none => true
        | some q => !r.overlaps q

/-- The first failing index in rising order, with its status: at each index the lock check, then the overlap check
(R18). -/
def State.commitFailure (s : State) : Option (Fin 32 × Status) :=
  windowIndices.findSome? fun i =>
    if s.lockPasses i = false then some (i, .locked)
    else if s.overlapPasses i = false then some (i, .overlap)
    else none

/-- Number of indices whose cell is not NONE (R19). -/
def State.stagedCount (s : State) : Nat := windowIndices.countP fun i => s.staging[i] ≠ .none

/-- A successful commit (R19): every index takes its resulting entry and every cell becomes NONE. -/
def State.applyCommit (s : State) : State :=
  { s with active := Vector.ofFn s.resulting, staging := .replicate 32 .none }

/-! ### Revocation pass -/

/-- The test of the revocation pass against an active set (R95). -/
def resolvesAlike (active : Vector (Option WindowRecord) 32) (n : Link) (need : Permission) (upstream : UpAddr)
    (len : Nat) (slot : Fin 16) (addr : ModAddr) (width : Width) : Bool :=
  match lookup active upstream with
  | none => false
  | some (i, r) =>
    (lookup active (upstream + BitVec.ofNat 32 len - 1)).map (·.1) = some i
      ∧ r.slot = slot ∧ r.translate upstream = addr ∧ r.width = width ∧ (r.rights.get n).permits need

/-- Whether an entry of a link's queue survives the pass (R95). An entry that names no QUEUED ticket is in no run and
stays (log 18). -/
def State.survives (s : State) (n : Link) : WorkEntry → Bool
  | .posted e => resolvesAlike s.active n .write e.upstream e.len e.slot e.addr e.width
  | .ticketed t =>
    match (s.ticket t).st with
    | .queued r _ _ => resolvesAlike s.active n r.op.permission r.upstream r.len r.slot r.addr r.width
    | _ => true

/-- What the pass does with a failing entry besides removing it (R96): a ticket completes with FAIL(REVOKED), a posted
write counts as flushed. -/
def State.revokeEntry (s : State) (n : Link) : WorkEntry → State
  | .ticketed t => s.complete t (.fail .revoked)
  | .posted _ => s.updFlushed n rise

/-- The pass over one queue, head to tail; the survivors keep their order (R96). -/
def State.revokeQueue (s : State) (n : Link) : State :=
  let failing := (s.queue n).filter fun e => !s.survives n e
  failing.foldl (fun s e => s.revokeEntry n e) (s.setQueue n ((s.queue n).filter fun e => s.survives n e))

/-- Posted entries of a queue that fail the test (R96). -/
def State.revokedPosted (s : State) (n : Link) : Nat :=
  (s.queue n).countP fun e => e.isPosted && !s.survives n e

/-- The revocation pass (R95, R96): WQ0, then WQ1, then one credit report to each link whose count is not 0. -/
def State.revoke (s : State) : State :=
  let s1 := (s.revokeQueue .l0).revokeQueue .l1
  (s1.reportCount .l0 (s.revokedPosted .l0)).reportCount .l1 (s.revokedPosted .l1)

/-- WINDOW_COMMIT at its owner (R17 to R21). -/
def ownerWindowCommit (ops : List Byte) (s : State) : MgmtAnswer :=
  match ops with
  | [f] =>
    match flagOf f with
    | none => s.refuse .badValue
    | some revoke =>
      if s.stagedCount = 0 then s.refuse .nothingStaged
      else
        match s.commitFailure with
        | some (i, why) => ⟨why, [byte i.val], s⟩
        | none =>
          let s1 := s.applyCommit
          (if revoke then s1.revoke else s1).accept [byte s.stagedCount]
  | _ => s.refuse .badValue

def execWindowCommit (n : Link) (tag : Byte) (ops : List Byte) (s : State) : StepResult :=
  .next (s.arrive n (encodeFrame (.windowCommit n tag ops)) fun s =>
    s.manage n tag Config.codeWindowCommit 1 true ops ownerWindowCommit)

/-! ### Locks and reading back -/

/-- WINDOW_LOCK at its owner: index, level, then the comparison of levels (R11, R23). -/
def ownerWindowLock (ops : List Byte) (s : State) : MgmtAnswer :=
  match ops with
  | [b, l] =>
    match indexOf b with
    | none => s.refuse .badIndex
    | some i =>
      match levelOf l with
      | none => s.refuse .badValue
      | some level =>
        if level.rank < s.locks[i].rank then ⟨.locked, [byte s.locks[i].rank], s⟩
        else ({ s with locks := s.locks.set i level } : State).accept [byte level.rank]
  | _ => s.refuse .badValue

def execWindowLock (n : Link) (tag : Byte) (ops : List Byte) (s : State) : StepResult :=
  .next (s.arrive n (encodeFrame (.windowLock n tag ops)) fun s =>
    s.manage n tag Config.codeWindowLock 2 true ops ownerWindowLock)

/-- The record of a SET cell (R25). -/
def StagingCell.record? : StagingCell → Option WindowRecord
  | .set r => some r
  | .none => Option.none
  | .clear => Option.none

/-- The record-present byte and the record, when there is one (R203, R204). -/
def recordResults : Option WindowRecord → List Byte
  | some r => 1 :: r.bytes
  | none => [0]

/-- WINDOW_READ at its owner: index, selector, then the contents (R11, R25). -/
def ownerWindowRead (ops : List Byte) (s : State) : MgmtAnswer :=
  match ops with
  | [b, sel] =>
    match indexOf b with
    | none => s.refuse .badIndex
    | some i =>
      match flagOf sel with
      | none => s.refuse .badValue
      | some staged =>
        let r := if staged then s.staging[i].record? else s.active[i]
        s.accept ([byte s.locks[i].rank, s.staging[i].code] ++ recordResults r)
  | _ => s.refuse .badValue

def execWindowRead (n : Link) (tag : Byte) (ops : List Byte) (s : State) : StepResult :=
  .next (s.arrive n (encodeFrame (.windowRead n tag ops)) fun s =>
    s.manage n tag Config.codeWindowRead 2 false ops ownerWindowRead)

end Sys2Proof.Machine
end

