-- ==== Sys2Proof/Machine/Dispatch.lean ====
section
/-! DEFINITION. One arm for each command: its meaning. -/

namespace Sys2Proof.Machine

def exec (i : Instr) (s : State) : Host.Outcome State Fault Refusal :=
  match i with
  | .fullReset cause => Sys2Proof.Machine.execFullReset cause s
  | .lossOfSignal n asserted => Sys2Proof.Machine.execLossOfSignal n asserted s
  | .hello n => Sys2Proof.Machine.execHello n s
  | .frameDrop n f => Sys2Proof.Machine.execFrameDrop n f s
  | .read n tag addr len => Sys2Proof.Machine.execRead n tag addr len s
  | .writeConfirmed n tag addr len data => Sys2Proof.Machine.execWriteConfirmed n tag addr len data s
  | .write n addr len data => Sys2Proof.Machine.execWrite n addr len data s
  | .claim n tag number gen => Sys2Proof.Machine.execClaim n tag number gen s
  | .cancel n tag number gen => Sys2Proof.Machine.execCancel n tag number gen s
  | .mgmtUnknownCommand n tag code ops => Sys2Proof.Machine.execMgmtUnknownCommand n tag code ops s
  | .leaseTake n tag ops => Sys2Proof.Machine.execLeaseTake n tag ops s
  | .leaseRenew n tag ops => Sys2Proof.Machine.execLeaseRenew n tag ops s
  | .leaseDrop n tag ops => Sys2Proof.Machine.execLeaseDrop n tag ops s
  | .identify n tag ops => Sys2Proof.Machine.execIdentify n tag ops s
  | .countersRead n tag ops => Sys2Proof.Machine.execCountersRead n tag ops s
  | .countersClear n tag ops => Sys2Proof.Machine.execCountersClear n tag ops s
  | .gateReset n tag ops => Sys2Proof.Machine.execGateReset n tag ops s
  | .windowStage n tag ops => Sys2Proof.Machine.execWindowStage n tag ops s
  | .windowUnstageClear n tag ops => Sys2Proof.Machine.execWindowUnstageClear n tag ops s
  | .windowUnstageWithdraw n tag ops => Sys2Proof.Machine.execWindowUnstageWithdraw n tag ops s
  | .windowCommit n tag ops => Sys2Proof.Machine.execWindowCommit n tag ops s
  | .windowLock n tag ops => Sys2Proof.Machine.execWindowLock n tag ops s
  | .windowRead n tag ops => Sys2Proof.Machine.execWindowRead n tag ops s
  | .setQuota n tag ops => Sys2Proof.Machine.execSetQuota n tag ops s
  | .setDiscard n tag ops => Sys2Proof.Machine.execSetDiscard n tag ops s
  | .ticketSummary n tag ops => Sys2Proof.Machine.execTicketSummary n tag ops s
  | .setBpTimeout n tag ops => Sys2Proof.Machine.execSetBpTimeout n tag ops s
  | .slotProbe n tag ops => Sys2Proof.Machine.execSlotProbe n tag ops s
  | .slotFence n tag ops => Sys2Proof.Machine.execSlotFence n tag ops s
  | .setFaultLimit n tag ops => Sys2Proof.Machine.execSetFaultLimit n tag ops s
  | .slotStatus n tag ops => Sys2Proof.Machine.execSlotStatus n tag ops s
  | .noticeEnable n tag ops => Sys2Proof.Machine.execNoticeEnable n tag ops s
  | .noticeAck n tag ops => Sys2Proof.Machine.execNoticeAck n tag ops s
  | .noticeRead n tag ops => Sys2Proof.Machine.execNoticeRead n tag ops s
  | .holdExpiry t => Sys2Proof.Machine.execHoldExpiry t s
  | .discardExpiry t => Sys2Proof.Machine.execDiscardExpiry t s
  | .leaseExpiry => Sys2Proof.Machine.execLeaseExpiry s
  | .phaseTimerExpiry => Sys2Proof.Machine.execPhaseTimerExpiry s
  | .selectAccept => Sys2Proof.Machine.execSelectAccept s
  | .selectReject => Sys2Proof.Machine.execSelectReject s
  | .selectWait => Sys2Proof.Machine.execSelectWait s
  | .writeBeatAccept => Sys2Proof.Machine.execWriteBeatAccept s
  | .writeBeatError => Sys2Proof.Machine.execWriteBeatError s
  | .readBeatData lanes parity => Sys2Proof.Machine.execReadBeatData lanes parity s
  | .readBeatError => Sys2Proof.Machine.execReadBeatError s
  | .alertAssertion slot asserted => Sys2Proof.Machine.execAlertAssertion slot asserted s
  | .arbiterGrant => Sys2Proof.Machine.execArbiterGrant s
  | .headDisposal n => Sys2Proof.Machine.execHeadDisposal n s
  | .outboundFrameSent n => Sys2Proof.Machine.execOutboundFrameSent n s
  | .frameWaitsAtReceiver n f => Sys2Proof.Machine.execFrameWaitsAtReceiver n f s
  | .transmissionBegins n => Sys2Proof.Machine.execTransmissionBegins n s

end Sys2Proof.Machine
end

