-- ==== Sys2Proof/Machine/Idle.lean ====
section
/-! DEFINITION. What the gate does when no command is queued (log 5): one of its own open events, or the passing of one
microsecond. -/

namespace Sys2Proof.Machine

/-- An event that needs no command from outside: time passes, a waiting frame is taken, or an event with a row of its
own whose condition holds. -/
inductive GateEvent where
  | time
  | takeWaiting (n : Link)
  | own (c : Instr)
  deriving DecidableEq, Repr

/-- The expiry of a ticket's timer that is due: its hold timer or its discard deadline (R39, R50). -/
def State.dueTicket (s : State) (t : Fin 24) : Option Instr :=
  match (s.ticket t).st with
  | .queued _ _ (.direct e) => if e ≤ s.now then some (.holdExpiry t) else none
  | .issued _ _ (.direct e) => if e ≤ s.now then some (.holdExpiry t) else none
  | .ready _ _ (some d) => if d ≤ s.now then some (.discardExpiry t) else none
  | _ => none

/-- The lease expiry when it is due (R168). -/
def State.dueLease (s : State) : Option Instr :=
  match s.lease with
  | some l => if l.expiry ≤ s.now then some .leaseExpiry else none
  | none => none

/-- The phase timer expiry when it is due (R113). -/
def State.duePhase (s : State) : Option Instr :=
  match s.bpc with
  | .addressing _ _ d => if d ≤ s.now then some .phaseTimerExpiry else none
  | .transfer _ _ d _ _ => if d ≤ s.now then some .phaseTimerExpiry else none
  | .idle => none

/-- The expiries that are due. -/
def State.dueEvents (s : State) : List Instr :=
  ticketNumbers.filterMap s.dueTicket ++ s.dueLease.toList ++ s.duePhase.toList

/-- Head disposals that are open (R86), the grant when one can be taken (R89), and transmissions that can begin (R195). -/
def State.ownEvents (s : State) : List Instr :=
  (Link.all.filter s.headDisposable).map .headDisposal
    ++ (if s.bpc = .idle ∧ s.chosen ≠ none then [.arbiterGrant] else [])
    ++ (Link.all.filter fun n => (s.port n).canBegin).map .transmissionBegins

/-- Whether the oldest waiting frame of a link can be taken (R185). -/
def State.canTakeWaiting (s : State) (n : Link) : Bool :=
  !(s.losPin.get n) && decide ((s.port n).outbound.length < Config.outboundPause) && !(s.port n).waiting.isEmpty

/-- The events that are open when no command is queued. Time passes only while no timer is due, so that it never passes
a timer's end; while RESET is asserted it is all that happens (R1). -/
def State.openEvents (s : State) : List GateEvent :=
  if s.resetPin then [.time]
  else
    (if s.dueEvents = [] then [.time] else [])
      ++ (s.dueEvents ++ s.ownEvents).map .own ++ (Link.all.filter s.canTakeWaiting).map .takeWaiting

/-- The oldest waiting frame of a link is taken: it is the command its bytes decode to (R185, R187). -/
def State.takeWaiting (s : State) (n : Link) : StepResult :=
  match (s.port n).waiting with
  | [] => .next s
  | f :: rest =>
    match exec (decodeFrame n f) (s.updPort n fun p => { p with waiting := [] }) with
    | .next t => .next (t.updPort n fun p => { p with waiting := rest ++ p.waiting })
    | .fault r => .fault r
    | .refused r => .refused r

/-- What an event of the gate does. -/
def GateEvent.run (e : GateEvent) (s : State) : StepResult :=
  match e with
  | .time => .next { s with now := s.now + 1 }
  | .takeWaiting n => s.takeWaiting n
  | .own c => exec c s

/-- The event that comes next: the only open one, or one of them by a free choice (log 5). -/
def State.nextEvent (s : State) : GateEvent :=
  match s.openEvents with
  | [e] => e
  | es => es.getD (Config.eventChoice s.free % es.length) .time

/-- The step on an empty queue. The free value it draws is used up. -/
def State.idleStep (s : State) : StepResult := s.nextEvent.run { s with free := s.free + 1 }

end Sys2Proof.Machine
end

