-- ==== Sys2Proof/Machine/Step.lean ====
section
/-! DEFINITION. One step: the command at the front of the queue, or an event of the gate's own on an empty queue. -/

namespace Sys2Proof.Machine

/-- One step of the gate (log 5, log 22). -/
def step (s : State) : Host.Outcome State Fault Refusal :=
  match s.pending with
  | c :: rest => exec c { s with pending := rest }
  | [] => s.idleStep

/-- The state with the command that a table word spells at the front of its queue; no row of the opcode table gives
bits, so no word spells one and the state is unchanged (log 22). -/
def State.withFetchWord (s : State) (nbits w : Nat) : State :=
  match decodeTableWord nbits w with
  | some c => { s with pending := c :: s.pending }
  | none => s

end Sys2Proof.Machine
end

