-- ==== Sys2Proof/Safety.lean ====
section
/-! DEFINITION. The laws of the gate as predicates on states, and the words in which the statements about commands are
made: a port that serves a frame, and the state with frames answered. -/

namespace Sys2Proof.Machine

/-! ### Words of the statements -/

/-- LPn takes an arriving frame at once (R185), and the link is UP (R187). -/
def State.serves (s : State) (n : Link) : Prop := s.takesNow n = true ∧ (s.port n).up = true

/-- The state with frames appended to the outbound list of a link (R195). -/
def State.sent (s : State) (n : Link) (fs : List OutFrame) : State :=
  { s with ports := s.ports.set n { s.ports.get n with outbound := (s.ports.get n).outbound ++ fs } }

/-- The state with frames formed for a link, UP or DOWN: a DOWN link discards them (R195). -/
def State.offered (s : State) (n : Link) (fs : List OutFrame) : State :=
  if (s.ports.get n).up then s.sent n fs else s

/-- The state in which frames taken of a link has risen for the frame being taken (R187). -/
def State.counted (s : State) (n : Link) : State :=
  { s with ports := s.ports.set n { s.ports.get n with framesTaken := rise (s.ports.get n).framesTaken } }

/-- The state in which a taken frame has been counted and answered with frames on its link, and nothing else changed. -/
def State.answered (s : State) (n : Link) (fs : List OutFrame) : State :=
  { s with
    ports := s.ports.set n
      { s.ports.get n with
        framesTaken := rise (s.ports.get n).framesTaken, outbound := (s.ports.get n).outbound ++ fs } }

/-- The state in which a MGMT frame has been counted and answered with its MGMT_REPLY, and nothing else changed (R160). -/
def State.replied (s : State) (n : Link) (tag code : Byte) (st : Status) (results : List Byte) : State :=
  s.answered n [.mgmtReply tag code st results]

/-- The full-reset values of every block, with the input levels, the time and the model's own fields kept (log 19). -/
def State.cleared (s : State) (reset : Bool) : State :=
  { State.reset with
    now := s.now, resetPin := reset, losPin := s.losPin, alertPin := s.alertPin, free := s.free, pending := s.pending }

/-- The work queue of a link as a source of the arbiter (R89). -/
def sourceOf : Link → Source
  | .l0 => .wq0
  | .l1 => .wq1

/-- Whether the step from a state is one of a full reset (R1). -/
def State.fullResetNext (s : State) : Prop := ∃ cause rest, s.pending = .fullReset cause :: rest

/-! ### The laws of the gate -/

/-- Law 1 (R20): no two ACTIVE entries overlap. -/
def WindowsDisjoint (active : Vector (Option WindowRecord) 32) : Prop :=
  ∀ (i j : Fin 32) (r q : WindowRecord), i ≠ j → active[i] = some r → active[j] = some q → r.overlaps q = false

/-- Only valid records are staged and active (R4). -/
def State.RecordsValid (s : State) : Prop :=
  ∀ (i : Fin 32) (r : WindowRecord), s.active[i] = some r ∨ s.staging[i] = .set r → r.valid = true

/-- How many entries of a link's queue name a ticket. -/
def State.entriesOf (s : State) (n : Link) (t : Fin 24) : Nat := (s.queue n).count (.ticketed t)

/-- The operation of the transaction in progress (R103). -/
def BpcState.operation? : BpcState → Option Operation
  | .idle => none
  | .addressing op _ _ => some op
  | .transfer op _ _ _ _ => some op

/-- The ticket whose operation is on the backplane, with its request (R103). -/
def Operation.ticket? : Operation → Option (Fin 24 × Request)
  | .ticketed t r _ => some (t, r)
  | .postedWrite _ _ => none
  | .probe _ => none

/-- The ticket on the backplane, with its request (R31). -/
def State.ticketInProgress (s : State) : Option (Fin 24 × Request) := s.bpc.operation?.bind Operation.ticket?

/-- Law 4 (R31) for one ticket: QUEUED and named by exactly one entry, of its owner's queue; ISSUED or DETACHED and the
operation in progress; READY or FREE and neither. -/
def State.TicketPlaced (s : State) (t : Fin 24) : Prop :=
  match (s.ticket t).st with
  | .queued r _ _ =>
    s.entriesOf r.owner t = 1 ∧ s.entriesOf r.owner.other t = 0 ∧ ∀ q, s.ticketInProgress ≠ some (t, q)
  | .issued r _ _ => s.entriesOf .l0 t = 0 ∧ s.entriesOf .l1 t = 0 ∧ s.ticketInProgress = some (t, r)
  | .detached r => s.entriesOf .l0 t = 0 ∧ s.entriesOf .l1 t = 0 ∧ s.ticketInProgress = some (t, r)
  | .ready _ _ _ => s.entriesOf .l0 t = 0 ∧ s.entriesOf .l1 t = 0 ∧ ∀ q, s.ticketInProgress ≠ some (t, q)
  | .free => s.entriesOf .l0 t = 0 ∧ s.entriesOf .l1 t = 0 ∧ ∀ q, s.ticketInProgress ≠ some (t, q)

/-- Law 4 (R31). -/
def State.TicketLaw (s : State) : Prop := ∀ t, s.TicketPlaced t

/-- Law 6 (R37), its part about tickets: no link holds more than one DIRECT ticket. -/
def State.DirectLaw (s : State) : Prop :=
  ∀ (n : Link) (t u : Fin 24),
    (s.ticket t).st.isDirect = true → (s.ticket t).st.owner? = some n →
    (s.ticket u).st.isDirect = true → (s.ticket u).st.owner? = some n → t = u

/-- Law 7 (R194) with the values of a DOWN link (R184), and the bounds of law 6 on a work queue (R70, R84): at most 16
posted and 16 ticketed entries. -/
def State.CreditLaw (s : State) : Prop :=
  ∀ n : Link,
    s.postedCount n ≤ 16 ∧ s.ticketedCount n ≤ 16 ∧ (s.port n).owed = 0 ∧
      (s.port n).granted + (if (s.port n).up then s.postedCount n else 0) = if (s.port n).up then 16 else 0

/-- The probe queue names exactly the slots that are PROBING with probe stage QUEUED, once each (R102, R128). -/
def State.ProbeLaw (s : State) : Prop :=
  ∀ i : Fin 16,
    s.probes.count i = match (s.slot i).state with
      | .probing .queued _ => 1
      | _ => 0

/-- The staging cells are NONE while the lease is FREE (R28, R163). -/
def State.LeaseLaw (s : State) : Prop := s.lease = none → ∀ i : Fin 32, s.staging[i] = .none

/-- Both sent flags of a CLEAR kind are clear, the count of a LATCHED kind is 1 to 255, and its detail is of its kind
(R145). -/
def State.NoticeLaw (s : State) : Prop :=
  ∀ k : NoticeKind,
    match (s.kind k).latch with
    | .clear => (s.kind k).sent = .both false
    | .latched c d => c ≠ 0 ∧ d.kind = k

/-- The settings and counts in their ranges: quotas 1 to 24 (R34), fault limit 1 to 7 and consecutive-timeout counts 0 to
7 (R126). -/
def State.RangeLaw (s : State) : Prop :=
  (∀ n, 1 ≤ s.quota.get n ∧ s.quota.get n ≤ 24) ∧ 1 ≤ s.faultLimit ∧ s.faultLimit ≤ 7 ∧
    ∀ i, (s.slot i).consecutive ≤ 7

/-- No running timer has passed its end, and none runs while RESET is asserted (R1, R39, R50, R113, R168). -/
def State.TimerLaw (s : State) : Prop :=
  (s.resetPin = true → s.timerEnds = []) ∧ ∀ x ∈ s.timerEnds, s.now ≤ x

/-- The backplane lines are released exactly while the controller is IDLE, and the select line asserted is the one of
the slot of the operation (R105, R112). -/
def State.BusLaw (s : State) : Prop :=
  match s.bpc.operation? with
  | none => s.bus = .released
  | some op => s.bus.select = some op.slot

end Sys2Proof.Machine
end

