-- ==== Sys2Proof/Certificates/Slice0/Obligations.lean ====
section
/-! DEFINITION. The statements for the provers. Frames: where a statement gives the next state as an update of the state
before, every field not named there is unchanged. `s.serves n` says that LPn is UP and takes the arriving frame. -/

section

open Sys2Proof Sys2Proof.Machine

/-! ### Steps -/

/-- The command at the front of the queue is taken on the state with the queue's rest (log 22). -/
def Obligations.StepTakesTheFrontCommand : Prop :=
  ∀ (c : Instr) (rest : List Instr) (s : State),
    step { s with pending := c :: rest } = exec c { s with pending := rest }

/-- On an empty queue the step is one of the open events of the gate: the model's choice of log 5. Time passes only while
no timer is due (or RESET is asserted). R185: a waiting frame can be taken while RESET and the loss-of-signal input are
deasserted and the outbound list holds fewer than 32 frames; the oldest is taken, it is the command that its bytes
decode to, and the rest wait on in their order. -/
def Obligations.IdleStepRunsAnOpenEvent : Prop :=
  (∀ s : State, s.pending = [] →
    (∃ e ∈ s.openEvents, step s = e.run { s with free := s.free + 1 }) ∧
    (GateEvent.time ∈ s.openEvents → s.resetPin = true ∨ s.dueEvents = [])) ∧
  (∀ (s : State) (n : Link), GateEvent.takeWaiting n ∈ s.openEvents ↔
    s.resetPin = false ∧ s.losPin.get n = false ∧ (s.port n).outbound.length < 32 ∧ (s.port n).waiting ≠ []) ∧
  (∀ (s : State) (n : Link) (f : RawFrame) (rest : List RawFrame),
    GateEvent.takeWaiting n ∈ s.openEvents → (s.port n).waiting = f :: rest →
    ∃ t, exec (decodeFrame n f) { s with ports := s.ports.set n { s.port n with waiting := [] } } = .next t ∧
      (t.port n).waiting = [] ∧
      (GateEvent.takeWaiting n).run s =
        .next { t with ports := t.ports.set n { t.port n with waiting := rest } })

/-- Every command has a next state: the manual gives each an effect, or none (NOTES.md, Stops). That no command touches
the queue of commands, a full reset included, is the model's: the queue is its own field (logs 22 and 19). -/
def Obligations.EveryCommandHasANextState : Prop :=
  ∀ (c : Instr) (s : State), ∃ t, exec c s = .next t ∧ t.pending = s.pending

/-! ### Full reset -/

/-- R1: full reset at power-on and at each assertion of RESET; nothing else changes anything but the recorded input
levels while RESET is asserted; the deassertion is no event; an input asserted meanwhile is asserted from then on. The
values of the blocks are in FullResetLeavesTheStatedValues. That the time and the model's own fields stay at a full
reset, and that a command carries the new level of an input, are the model's (logs 19 and 2). -/
def Obligations.FullResetAndTheResetInput : Prop :=
  ∀ s : State,
    exec (.fullReset .powerOn) s = .next (s.cleared s.resetPin) ∧
    (s.resetPin = false → exec (.fullReset (.resetInput true)) s = .next (s.cleared true)) ∧
    (s.resetPin = true → exec (.fullReset (.resetInput true)) s = .next s) ∧
    exec (.fullReset (.resetInput false)) s = .next { s with resetPin := false } ∧
    (s.resetPin = true → ∀ n b, exec (.lossOfSignal n b) s = .next { s with losPin := s.losPin.set n b }) ∧
    (s.resetPin = true → ∀ i b, exec (.alertAssertion i b) s = .next { s with alertPin := s.alertPin.set i b }) ∧
    (s.resetPin = true → ∀ c, (∀ cause, c ≠ .fullReset cause) → (∀ n b, c ≠ .lossOfSignal n b) →
      (∀ i b, c ≠ .alertAssertion i b) → exec c s = .next s) ∧
    (∀ n, s.losPin.get n = true → exec (.lossOfSignal n true) s = .next s) ∧
    (∀ i, s.alertPin[i] = true → exec (.alertAssertion i true) s = .next s)

/-- The values after full reset that the chapters state, block by block; no source is eligible then. -/
def Obligations.FullResetLeavesTheStatedValues : Prop :=
  ∀ s : State, ∃ t, exec (.fullReset .powerOn) s = .next t ∧
    (∀ i : Fin 32, t.active[i] = none ∧ t.staging[i] = .none ∧ t.locks[i] = .unlocked) ∧
    (∀ k : Fin 24, t.ticket k = ⟨0, .free⟩) ∧ t.quota = ⟨12, 12⟩ ∧ t.discard = .ms16 ∧ t.expired = 0 ∧
    t.queues = ⟨[], []⟩ ∧ t.probes = [] ∧ t.pointer = .wq0 ∧ t.flushed = ⟨0, 0⟩ ∧ t.chosen = none ∧
    t.bpc = .idle ∧ t.bus = .released ∧ t.timeoutSel = .us128 ∧
    (∀ i : Fin 16, t.slot i = ⟨.offline, 0, 0, 0, 0, 0, 0⟩) ∧ t.faultLimit = 3 ∧
    (∀ k, t.kind k = ⟨.clear, ⟨false, false⟩⟩) ∧ t.lease = none ∧
    (∀ n, t.port n = ⟨false, 0, 0, 0, [], false, [], 0, 0, 0, 0⟩ ∧ t.adm.get n = ⟨0, 0⟩)

/-- The laws hold in the reset state. -/
def Obligations.LawsHoldAtReset : Prop :=
  WindowsDisjoint State.reset.active ∧ State.reset.RecordsValid ∧ State.reset.TicketLaw ∧ State.reset.DirectLaw ∧
    State.reset.CreditLaw ∧ State.reset.ProbeLaw ∧ State.reset.LeaseLaw ∧ State.reset.NoticeLaw ∧
    State.reset.RangeLaw ∧ State.reset.BusLaw ∧ State.reset.TimerLaw

/-! ### Window table -/

/-- R7, whole: with law 1, a lookup answers with the index and record of the one ACTIVE entry whose range contains the
address, and with none when there is no such entry. It reads the active entries alone. -/
def Obligations.LookupFindsTheOneCoveringWindow : Prop :=
  ∀ (active : Vector (Option WindowRecord) 32) (a : UpAddr), WindowsDisjoint active →
    (∀ (i : Fin 32) (r : WindowRecord), lookup active a = some (i, r) ↔
      active[i] = some r ∧ r.base.toNat ≤ a.toNat ∧ a.toNat ≤ r.limit.toNat) ∧
    (lookup active a = none ↔
      ∀ (i : Fin 32) (r : WindowRecord), active[i] = some r → ¬(r.base.toNat ≤ a.toNat ∧ a.toNat ≤ r.limit.toNat))

/-- R8, R65: a request within one row that starts in a valid window ends in it, and its addresses translate within the slot
with their offset in the row kept. -/
def Obligations.ARowRequestStaysInItsWindow : Prop :=
  ∀ (active : Vector (Option WindowRecord) 32) (a : UpAddr) (len : Nat) (i : Fin 32) (r : WindowRecord),
    WindowsDisjoint active → r.valid = true → lengthInRow a len = true → lookup active a = some (i, r) →
    lookup active (lastByte a len) = some (i, r) ∧
    (lastByte a len).toNat = a.toNat + len - 1 ∧
    (r.translate a).toNat = r.modBase.toNat + (a.toNat - r.base.toNat) ∧
    (r.translate a).toNat + len ≤ 0x1000000 ∧
    (r.translate a).toNat % 64 = a.toNat % 64

/-- R12, R13, whole: the cell of an OPEN index takes the record; a FROZEN index refuses; a NARROW one decides by the
narrowing test against the active entry. Nothing else changes. -/
def Obligations.WindowStageSetsTheCell : Prop :=
  ∀ (s : State) (n : Link) (tag : Byte) (i : Fin 32) (r : WindowRecord),
    s.serves n → s.holdsLease n = true → r.valid = true →
    exec (.windowStage n tag (byte i.val :: r.bytes)) s = .next
      (let staged := { s with staging := s.staging.set i (.set r) }.replied n tag 0x10 .ok []
       let refused := s.replied n tag 0x10 .locked []
       match s.locks[i] with
       | .unlocked => staged
       | .narrow => if narrows s.active[i] r then staged else refused
       | .frozen => refused)

/-- R14, the test of a SET: it passes exactly when the index is ACTIVE and every condition of the table holds. And law 3
(R20): a record that passes the narrowing test lies inside the current one, keeps every address it has at
the same place, with the same width, hold and chaining, and gives no link a permission it had not. -/
def Obligations.NarrowingOnlyNarrows : Prop :=
  (∀ r, narrows none r = false) ∧
  (∀ cur new : WindowRecord, narrows (some cur) new = true ↔
    new.slot = cur.slot ∧ new.width = cur.width ∧ new.hold = cur.hold ∧ new.chaining = cur.chaining ∧
    cur.base.toNat ≤ new.base.toNat ∧ new.limit.toNat ≤ cur.limit.toNat ∧
    new.modBase.toNat = cur.modBase.toNat + (new.base.toNat - cur.base.toNat) ∧
    ∀ n p, (new.rights.get n).permits p = true → (cur.rights.get n).permits p = true) ∧
  ∀ cur new : WindowRecord, cur.valid = true → new.valid = true → narrows (some cur) new = true →
    new.slot = cur.slot ∧ new.width = cur.width ∧ new.hold = cur.hold ∧ new.chaining = cur.chaining ∧
    (∀ a, new.covers a = true → cur.covers a = true ∧ new.translate a = cur.translate a) ∧
    (∀ n p, (new.rights.get n).permits p = true → (cur.rights.get n).permits p = true)

/-- R15, R16: with the clear flag the cell becomes CLEAR unless the index is FROZEN; without it the cell becomes NONE at
every lock level. Nothing else changes. -/
def Obligations.WindowUnstageClearsOrWithdraws : Prop :=
  ∀ (s : State) (n : Link) (tag : Byte) (i : Fin 32), s.serves n → s.holdsLease n = true →
    (s.locks[i] ≠ .frozen → exec (.windowUnstageClear n tag [byte i.val, 1]) s =
      .next ({ s with staging := s.staging.set i .clear }.replied n tag 0x11 .ok [])) ∧
    (s.locks[i] = .frozen → exec (.windowUnstageClear n tag [byte i.val, 1]) s =
      .next (s.replied n tag 0x11 .locked [])) ∧
    exec (.windowUnstageWithdraw n tag [byte i.val, 0]) s =
      .next ({ s with staging := s.staging.set i .none }.replied n tag 0x11 .ok [])

/-- R17, R18, R19, R24: a commit with nothing staged is refused; else the first index in rising order that fails its lock
check or its overlap check is named and nothing changes; else every index takes its resulting entry, every cell becomes
NONE, and the reply carries the number of cells applied. The lock check passes where nothing is staged, at an OPEN index,
and at a NARROW one for a CLEAR or a record that passes the narrowing test; the overlap check fails where a
resulting range meets another. -/
def Obligations.WindowCommitIsAllOrNothing : Prop :=
  let result := fun (s : State) (i : Fin 32) => match s.staging[i] with
    | .none => s.active[i]
    | .set r => some r
    | .clear => none
  (∀ (s : State) (i : Fin 32), s.lockPasses i = true ↔
    s.staging[i] = .none ∨ s.locks[i] = .unlocked ∨
      s.locks[i] = .narrow ∧ (s.staging[i] = .clear ∨ ∃ r, s.staging[i] = .set r ∧ narrows s.active[i] r = true)) ∧
  (∀ (s : State) (i : Fin 32), s.overlapPasses i = true ↔
    ∀ (j : Fin 32) (r q : WindowRecord), j ≠ i → result s i = some r → result s j = some q →
      r.limit.toNat < q.base.toNat ∨ q.limit.toNat < r.base.toNat) ∧
  ∀ (s : State) (n : Link) (tag : Byte) (revoke : Bool), s.serves n → s.holdsLease n = true →
    ((∀ j : Fin 32, s.staging[j] = .none) →
      exec (.windowCommit n tag [flagByte revoke]) s = .next (s.replied n tag 0x12 .nothingStaged [])) ∧
    ((∃ j : Fin 32, s.staging[j] ≠ .none) →
      (∀ i : Fin 32, (∀ j : Fin 32, j < i → s.lockPasses j = true ∧ s.overlapPasses j = true) →
        (s.lockPasses i = false →
          exec (.windowCommit n tag [flagByte revoke]) s = .next (s.replied n tag 0x12 .locked [byte i.val])) ∧
        (s.lockPasses i = true → s.overlapPasses i = false →
          exec (.windowCommit n tag [flagByte revoke]) s = .next (s.replied n tag 0x12 .overlap [byte i.val]))) ∧
      ((∀ j : Fin 32, s.lockPasses j = true ∧ s.overlapPasses j = true) →
        exec (.windowCommit n tag [0]) s = .next
          ({ s with active := Vector.ofFn (result s), staging := .replicate 32 .none }.replied n tag 0x12 .ok
            [byte ((List.finRange 32).countP fun i => decide (s.staging[i] ≠ StagingCell.none))])))

/-- R21, R95, R96: a successful commit with the revoke flag applies the cells, makes the pass, and then forms its reply.
R95: an entry survives when its first and last byte resolve to one ACTIVE index whose record gives the same slot, module
address and width, and the needed right to its link. R96, under law 4: the survivors stay in order. A failing ticket
completes with FAIL(REVOKED): a DIRECT one is answered under its request tag and freed, a DEFERRED one is READY.
Failing posted entries count as flushed, and their credits are reported in one CREDIT behind the answers, on an UP
link that has any; a DOWN link forms nothing and its port is unchanged. Everything else is kept. -/
def Obligations.RevokingCommitPassesOverTheQueues : Prop :=
  let alike := fun (s : State) (n : Link) (need : Permission) (up : UpAddr) (len : Nat) (slot : Fin 16)
      (addr : ModAddr) (width : Width) =>
    ∃ (i : Fin 32) (r q : WindowRecord),
      lookup s.active up = some (i, r) ∧ lookup s.active (up + BitVec.ofNat 32 len - 1) = some (i, q) ∧
      r.slot = slot ∧ r.translate up = addr ∧ r.width = width ∧ (r.rights.get n).permits need = true
  (∀ (s : State) (n : Link),
    (∀ e, s.survives n (.posted e) = true ↔ alike s n .write e.upstream e.len e.slot e.addr e.width) ∧
    (∀ t r d m, (s.ticket t).st = .queued r d m → (s.survives n (.ticketed t) = true ↔
      alike s n (if r.op = .read then .read else .write) r.upstream r.len r.slot r.addr r.width))) ∧
  (∀ (s : State) (n : Link) (tag : Byte), s.serves n → s.holdsLease n = true →
    (∃ j : Fin 32, s.staging[j] ≠ .none) → (∀ j : Fin 32, s.lockPasses j = true ∧ s.overlapPasses j = true) →
    exec (.windowCommit n tag [1]) s = .next
      (({ s.counted n with
          active := Vector.ofFn s.resulting, staging := .replicate 32 .none }.revoke).sent n
        [.mgmtReply tag 0x12 .ok [byte s.stagedCount]])) ∧
  (∀ s : State, s.TicketLaw →
    let dropped := fun n => (s.queue n).countP fun e => e.isPosted && !s.survives n e
    let answers := fun n => (s.queue n).filterMap fun e => match e with
      | .posted _ => none
      | .ticketed t =>
        if s.survives n (.ticketed t) = true then none
        else match (s.ticket t).st with
          | .queued r _ (.direct _) => some (OutFrame.result r.tag (.fail .revoked))
          | _ => none
    let fails := fun t => ∃ n, .ticketed t ∈ s.queue n ∧ s.survives n (.ticketed t) = false
    (∀ n, s.revoke.queue n = (s.queue n).filter fun e => s.survives n e) ∧
    (∀ t, (∀ r d m, fails t → (s.ticket t).st = .queued r d m →
        s.revoke.ticket t = match m with
          | .direct _ => ⟨(s.ticket t).gen + 1, .free⟩
          | .deferred => ⟨(s.ticket t).gen, .ready r (.fail .revoked) (s.discard.deadline s.now)⟩) ∧
      (¬fails t → s.revoke.ticket t = s.ticket t)) ∧
    (∀ n, s.revoke.flushed.get n = riseBy (dropped n) (s.flushed.get n)) ∧
    (∀ n, s.revoke.port n =
      if (s.port n).up = false then s.port n
      else if dropped n = 0 then { s.port n with outbound := (s.port n).outbound ++ answers n }
      else { s.port n with
        outbound := (s.port n).outbound ++ answers n ++ [.credit ((s.port n).owed + dropped n)]
        granted := (s.port n).granted + ((s.port n).owed + dropped n), owed := 0 }) ∧
    s.revoke = { s with
      queues := s.revoke.queues, tickets := s.revoke.tickets, flushed := s.revoke.flushed, ports := s.revoke.ports })

/-- R23: a level not below the current one is taken, a lower one is refused with the level held. Nothing else changes. -/
def Obligations.WindowLockOnlyRises : Prop :=
  ∀ (s : State) (n : Link) (tag : Byte) (i : Fin 32) (l : LockLevel), s.serves n → s.holdsLease n = true →
    (s.locks[i].rank ≤ l.rank → exec (.windowLock n tag [byte i.val, byte l.rank]) s =
      .next ({ s with locks := s.locks.set i l }.replied n tag 0x13 .ok [byte l.rank])) ∧
    (l.rank < s.locks[i].rank → exec (.windowLock n tag [byte i.val, byte l.rank]) s =
      .next (s.replied n tag 0x13 .locked [byte s.locks[i].rank]))

/-- R11: the operand checks of the window commands, in their order. -/
def Obligations.WindowOperandChecks : Prop :=
  ∀ (s : State) (n : Link) (tag b f : Byte) (rec : List Byte), s.serves n → s.holdsLease n = true →
    (32 ≤ b.toNat → rec.length = 17 →
      exec (.windowStage n tag (b :: rec)) s = .next (s.replied n tag 0x10 .badIndex [])) ∧
    (b.toNat < 32 → rec.length = 17 → recordOf rec = none →
      exec (.windowStage n tag (b :: rec)) s = .next (s.replied n tag 0x10 .badRecord [])) ∧
    (32 ≤ b.toNat → exec (.windowUnstageClear n tag [b, 1]) s = .next (s.replied n tag 0x11 .badIndex [])) ∧
    (32 ≤ b.toNat → exec (.windowUnstageWithdraw n tag [b, f]) s = .next (s.replied n tag 0x11 .badIndex [])) ∧
    (b.toNat < 32 → 2 ≤ f.toNat →
      exec (.windowUnstageWithdraw n tag [b, f]) s = .next (s.replied n tag 0x11 .badValue [])) ∧
    (2 ≤ f.toNat → exec (.windowCommit n tag [f]) s = .next (s.replied n tag 0x12 .badValue [])) ∧
    (32 ≤ b.toNat → exec (.windowLock n tag [b, f]) s = .next (s.replied n tag 0x13 .badIndex [])) ∧
    (b.toNat < 32 → 3 ≤ f.toNat → exec (.windowLock n tag [b, f]) s = .next (s.replied n tag 0x13 .badValue [])) ∧
    (32 ≤ b.toNat → exec (.windowRead n tag [b, f]) s = .next (s.replied n tag 0x14 .badIndex [])) ∧
    (b.toNat < 32 → 2 ≤ f.toNat → exec (.windowRead n tag [b, f]) s = .next (s.replied n tag 0x14 .badValue []))

/-- R4, R204: the 17 bytes of a window record are read back as that record exactly when it is valid. -/
def Obligations.WindowRecordsReadBack : Prop :=
  ∀ (bs : List Byte) (r : WindowRecord), recordOf bs = some r ↔ r.valid = true ∧ bs = r.bytes

/-- Law 1 (R20) is kept by every step. -/
def Obligations.WindowsStayDisjoint : Prop :=
  ∀ s t : State, WindowsDisjoint s.active → step s = .next t → WindowsDisjoint t.active

/-- Law 2 (R23): the lock level of an index never becomes lower, except at full reset. Law 3 (R20) with R24: in every step
but a full reset the entry of a FROZEN index stays, and the entry of a NARROW one stays, becomes EMPTY, or takes a range
inside the one it had with the same slot, width, hold, chaining and translation, and no wider rights. -/
def Obligations.LocksNeverFall : Prop :=
  ∀ s t : State, ¬s.fullResetNext → step s = .next t → ∀ i : Fin 32,
    s.locks[i].rank ≤ t.locks[i].rank ∧
    (s.locks[i] = .frozen → t.active[i] = s.active[i]) ∧
    (s.locks[i] = .narrow → t.active[i] = s.active[i] ∨ t.active[i] = none ∨
      ∃ cur new : WindowRecord, s.active[i] = some cur ∧ t.active[i] = some new ∧
        new.slot = cur.slot ∧ new.width = cur.width ∧ new.hold = cur.hold ∧ new.chaining = cur.chaining ∧
        cur.base.toNat ≤ new.base.toNat ∧ new.limit.toNat ≤ cur.limit.toNat ∧
        new.modBase.toNat = cur.modBase.toNat + (new.base.toNat - cur.base.toNat) ∧
        ∀ n p, (new.rights.get n).permits p = true → (cur.rights.get n).permits p = true)

/-- Kept by every step: only valid records are staged and active (R4); the staging cells are NONE while the lease is FREE
(R28); both sent flags of a CLEAR kind are clear, the count of a LATCHED kind is not 0 and its detail is of the kind
(R145); and no running timer is past its end (log 4). Law 10 (R49): a ticket becomes READY with the deadline of the
selection then held, counted from then, and while it is READY it keeps that deadline, which the time never passes. A
hold timer or deadline still runs while another running timer ends earlier, and its expiry command then does nothing:
the model's choice, log 4. -/
def Obligations.RecordLawsAreKept : Prop :=
  (∀ s t : State, s.RecordsValid → s.LeaseLaw → s.NoticeLaw → step s = .next t →
    t.RecordsValid ∧ t.LeaseLaw ∧ t.NoticeLaw) ∧
  (∀ s t : State, s.TimerLaw → step s = .next t → t.TimerLaw) ∧
  (∀ (s t : State) (k : Fin 24) (r : Request) (res : Result) (d : Option Nat), step s = .next t →
    ((s.ticket k).st = .ready r res d → t.ticket k = s.ticket k ∨ (t.ticket k).st = .free) ∧
    ((t.ticket k).st = .ready r res d → (∀ r' res' d', (s.ticket k).st ≠ .ready r' res' d') →
      d = match t.discard with
        | .disabled => none
        | .ms2 => some (t.now + 2000)
        | .ms16 => some (t.now + 16000)
        | .ms128 => some (t.now + 128000))) ∧
  (∀ s : State, s.TimerLaw →
    (∀ k r res d, (s.ticket k).st = .ready r res (some d) → s.now ≤ d) ∧
    (∀ k r d e, (s.ticket k).st = .queued r d (.direct e) ∨ (s.ticket k).st = .issued r d (.direct e) → s.now ≤ e) ∧
    (∀ l, s.lease = some l → s.now ≤ l.expiry) ∧
    (∀ op row e i got, s.bpc = .addressing op row e ∨ s.bpc = .transfer op row e i got → s.now ≤ e)) ∧
  (∀ (s : State) (k : Fin 24) (r : Request) (d : List Byte) (res : Result) (e : Nat), (∃ x ∈ s.timerEnds, x < e) →
    ((s.ticket k).st = .queued r d (.direct e) ∨ (s.ticket k).st = .issued r d (.direct e) →
      exec (.holdExpiry k) s = .next s) ∧
    ((s.ticket k).st = .ready r res (some e) → exec (.discardExpiry k) s = .next s))

/-! ### Tickets -/

/-- R45, whole: the answer to a claim by the state, the reply mode and the owner of the ticket that its id names, and
FAIL(NO_TICKET) for an id that names none. -/
def Obligations.ClaimAnswersByTheTicket : Prop :=
  ∀ (s : State) (n : Link) (tag : Byte), s.serves n →
    (∀ t : Fin 24,
      exec (.claim n tag (byte t.val) ((s.ticket t).gen.setWidth 8)) s = .next
        (let none := s.answered n [.result tag (.fail .noTicket)]
         let pending := s.answered n [.result tag (.pending t (s.ticket t).gen)]
         match (s.ticket t).st with
         | .ready r res _ =>
           if r.owner = n then
             { s.answered n [.result tag res.answer] with tickets := s.tickets.set t ⟨(s.ticket t).gen + 1, .free⟩ }
           else none
         | .queued r _ .deferred => if r.owner = n then pending else none
         | .issued r _ .deferred => if r.owner = n then pending else none
         | _ => none)) ∧
    (∀ number gen : Byte,
      (24 ≤ number.toNat ∨ 16 ≤ gen.toNat ∨ ∃ t : Fin 24, number = byte t.val ∧ gen ≠ (s.ticket t).gen.setWidth 8) →
      exec (.claim n tag number gen) s = .next (s.answered n [.result tag (.fail .noTicket)]))

/-- R47, whole: the effect of a cancel and its answer by the state, the reply mode and the owner of the ticket, and
FAIL(NO_TICKET) without effect otherwise. -/
def Obligations.CancelActsByTheTicket : Prop :=
  ∀ (s : State) (n : Link) (tag : Byte), s.serves n →
    (∀ t : Fin 24,
      exec (.cancel n tag (byte t.val) ((s.ticket t).gen.setWidth 8)) s = .next
        (let none := s.answered n [.result tag (.fail .noTicket)]
         let freed := s.tickets.set t ⟨(s.ticket t).gen + 1, .free⟩
         match (s.ticket t).st with
         | .queued r _ .deferred =>
           if r.owner = n then
             { s.answered n [.result tag .cancelled] with
               tickets := freed, queues := s.queues.set n ((s.queue n).filter (· ≠ .ticketed t)) }
           else none
         | .issued r _ .deferred =>
           if r.owner = n then
             { s.answered n [.result tag .detached] with
               tickets := s.tickets.set t ⟨(s.ticket t).gen, .detached r⟩ }
           else none
         | .ready r _ _ =>
           if r.owner = n then { s.answered n [.result tag .discarded] with tickets := freed } else none
         | _ => none)) ∧
    (∀ number gen : Byte,
      (24 ≤ number.toNat ∨ 16 ≤ gen.toNat ∨ ∃ t : Fin 24, number = byte t.val ∧ gen ≠ (s.ticket t).gen.setWidth 8) →
      exec (.cancel n tag number gen) s = .next (s.answered n [.result tag (.fail .noTicket)]))

/-- R35, whole: the quota of the named link takes a value of 1 to 24; any other operand is refused and both quotas stay.
And the discard selection (R49), the timeout selection (R114) and the fault limit (R134) take the value of their command,
and keep theirs when its code is out of range. Nothing else changes. -/
def Obligations.SettingsTakeTheirValue : Prop :=
  (∀ (s : State) (n : Link) (tag : Byte), s.serves n →
      (s.holdsLease n = true →
        (∀ (m : Link) (q : Byte), 1 ≤ q.toNat → q.toNat ≤ 24 →
          exec (.setQuota n tag [m.num, q]) s =
            .next ({ s with quota := s.quota.set m q.toNat }.replied n tag 0x20 .ok [q])) ∧
        (∀ l q : Byte, (2 ≤ l.toNat ∨ q.toNat = 0 ∨ 25 ≤ q.toNat) →
          exec (.setQuota n tag [l, q]) s = .next (s.replied n tag 0x20 .badValue []))) ∧
      (s.holdsLease n = false → ∀ l q : Byte,
        exec (.setQuota n tag [l, q]) s = .next (s.replied n tag 0x20 .notOwner []))) ∧
  (∀ (s : State) (n : Link) (tag : Byte), s.serves n → s.holdsLease n = true →
      (∀ d : DiscardSelection,
        exec (.setDiscard n tag [d.code]) s = .next ({ s with discard := d }.replied n tag 0x21 .ok [d.code])) ∧
      (∀ b : Byte, 4 ≤ b.toNat → exec (.setDiscard n tag [b]) s = .next (s.replied n tag 0x21 .badValue [])) ∧
      (∀ x : TimeoutSelection,
        exec (.setBpTimeout n tag [x.code]) s = .next ({ s with timeoutSel := x }.replied n tag 0x30 .ok [x.code])) ∧
      (∀ b : Byte, 3 ≤ b.toNat → exec (.setBpTimeout n tag [b]) s = .next (s.replied n tag 0x30 .badValue [])) ∧
      (∀ b : Byte, 1 ≤ b.toNat → b.toNat ≤ 7 →
        exec (.setFaultLimit n tag [b]) s = .next ({ s with faultLimit := b.toNat }.replied n tag 0x33 .ok [b])) ∧
      (∀ b : Byte, b.toNat = 0 ∨ 8 ≤ b.toNat →
        exec (.setFaultLimit n tag [b]) s = .next (s.replied n tag 0x33 .badValue [])))

/-- R39, whole: the hold timer of a DIRECT ticket runs out: PENDING under the request tag on the owner link, and the ticket
is DEFERRED in the state it was in. The timer has run out when no other running timer ends earlier; the command while
one does is in RecordLawsAreKept. (The time after the event is the model's, log 4, and is left open here.) -/
def Obligations.HoldExpiryAnswersPending : Prop :=
  ∀ (s : State) (t : Fin 24) (r : Request) (d : List Byte) (e : Nat), s.resetPin = false →
    ((s.ticket t).st = .queued r d (.direct e) → (∀ x ∈ s.timerEnds, e ≤ x) → ∃ time,
      exec (.holdExpiry t) s = .next
        { s.offered r.owner [.result r.tag (.pending t (s.ticket t).gen)] with
          now := time, tickets := s.tickets.set t ⟨(s.ticket t).gen, .queued r d .deferred⟩ }) ∧
    ((s.ticket t).st = .issued r d (.direct e) → (∀ x ∈ s.timerEnds, e ≤ x) → ∃ time,
      exec (.holdExpiry t) s = .next
        { s.offered r.owner [.result r.tag (.pending t (s.ticket t).gen)] with
          now := time, tickets := s.tickets.set t ⟨(s.ticket t).gen, .issued r d .deferred⟩ }) ∧
    ((s.ticket t).st.isDirect = false → exec (.holdExpiry t) s = .next s)

/-- R50, whole: the deadline of a READY ticket passes: it is FREE with its generation advanced, the expired counter rises,
TICKET_EXPIRED is raised with the generation it held. Only a READY ticket with a deadline expires. The deadline has
passed when no other running timer ends earlier; the command while one does is in RecordLawsAreKept. (The time after
the event is the model's, log 4, and is left open here.) -/
def Obligations.DiscardExpiryFreesTheTicket : Prop :=
  ∀ (s : State) (t : Fin 24), s.resetPin = false →
    (∀ r res d, (s.ticket t).st = .ready r res (some d) → (∀ x ∈ s.timerEnds, d ≤ x) → ∃ time,
      exec (.discardExpiry t) s = .next
        ({ s with
            now := time, tickets := s.tickets.set t ⟨(s.ticket t).gen + 1, .free⟩, expired := rise s.expired }.raise
          (.ticketExpired r.owner t (s.ticket t).gen r.upstream))) ∧
    ((∀ r res d, (s.ticket t).st ≠ .ready r res (some d)) → exec (.discardExpiry t) s = .next s)

/-- R40, R42, R43, R44: what a completion does to a ticket by its state and reply mode. -/
def Obligations.CompletionActsByTheReplyMode : Prop :=
  ∀ (s : State) (t : Fin 24) (r : Request) (d : List Byte) (e : Nat) (res : Result),
    ((s.ticket t).st = .queued r d (.direct e) ∨ (s.ticket t).st = .issued r d (.direct e) →
      s.complete t res = { s.offered r.owner [.result r.tag res.answer] with
        tickets := s.tickets.set t ⟨(s.ticket t).gen + 1, .free⟩ }) ∧
    ((s.ticket t).st = .queued r d .deferred ∨ (s.ticket t).st = .issued r d .deferred →
      s.complete t res = { s with
        tickets := s.tickets.set t ⟨(s.ticket t).gen, .ready r res (match s.discard with
          | .disabled => none
          | .ms2 => some (s.now + 2000)
          | .ms16 => some (s.now + 16000)
          | .ms128 => some (s.now + 128000))⟩ }) ∧
    ((s.ticket t).st = .detached r →
      s.complete t res = { s with tickets := s.tickets.set t ⟨(s.ticket t).gen + 1, .free⟩ })

/-- R32: the generation of a ticket advances by one, modulo 16, in each event but a full reset in which the ticket becomes
FREE, and in no other. -/
def Obligations.GenerationsAdvanceAtEachFreeing : Prop :=
  ∀ (c : Instr) (s u : State), (∀ cause, c ≠ .fullReset cause) → exec c s = .next u → ∀ t : Fin 24,
    (u.ticket t).gen =
      if (s.ticket t).st ≠ .free ∧ (u.ticket t).st = .free then (s.ticket t).gen + 1 else (s.ticket t).gen

/-- Law 4 (R31) is kept by every step. -/
def Obligations.TicketsStayPlaced : Prop :=
  ∀ s t : State, s.TicketLaw → step s = .next t → t.TicketLaw

/-- Law 6 (R37), its part about tickets, is kept by every step. -/
def Obligations.OneDirectTicketALink : Prop :=
  ∀ s t : State, s.DirectLaw → step s = .next t → t.DirectLaw

/-! ### Admission -/

/-- R63, whole: check 1 passes when the length is 1 to 64 and every byte of the request lies in the row of its start,
which is when the offset in the row plus the length is at most 64; the request then ends below the top of the space. A
request that fails it gets BAD_LENGTH, whatever the windows. -/
def Obligations.LengthAndRowCheck : Prop :=
  ∀ (a : UpAddr) (len : Nat),
    (lengthInRow a len = true ↔ 1 ≤ len ∧ len ≤ 64 ∧ ∀ k, k < len → (a.toNat + k) / 64 = a.toNat / 64) ∧
    (lengthInRow a len = true ↔ 1 ≤ len ∧ len ≤ 64 ∧ a.toNat % 64 + len ≤ 64) ∧
    (lengthInRow a len = true → a.toNat + len ≤ 0x100000000) ∧
    (lengthInRow a len = false → ∀ (s : State) (n : Link) (need : Permission), s.admission n need a len = .error .badLength)

/-- R62, R64 to R67: the five checks in their order, with the reason of the first that fails. -/
def Obligations.AdmissionChecksInOrder : Prop :=
  ∀ (s : State) (n : Link) (need : Permission) (a : UpAddr) (len : Nat),
    (lengthInRow a len = false → s.admission n need a len = .error .badLength) ∧
    (lengthInRow a len = true →
      (lookup s.active a = none → s.admission n need a len = .error .noWindow) ∧
      (∀ i r, lookup s.active a = some (i, r) →
        ((∀ q, lookup s.active (lastByte a len) ≠ some (i, q)) → s.admission n need a len = .error .badLength) ∧
        (∀ q, lookup s.active (lastByte a len) = some (i, q) →
          ((r.rights.get n).permits need = false → s.admission n need a len = .error .denied) ∧
          ((r.rights.get n).permits need = true →
            (a.toNat % r.width.toNat = 0 ∧ len % r.width.toNat = 0 → s.admission n need a len = .ok r) ∧
            (¬(a.toNat % r.width.toNat = 0 ∧ len % r.width.toNat = 0) →
              s.admission n need a len = .error .badAlign)))))

/-- R68, R72, whole: a ticketed request that fails a check is answered FAIL with its reason; one that passes them but finds
16 ticketed entries in its queue, or no ticket granted, is answered BUSY, counted, and TICKET_EXHAUSTED is raised with its
cause. Nothing else changes. (A WRITE_CONFIRMED carries as many data bytes as its length names, at most 249: R201.) -/
def Obligations.RefusedTicketedRequests : Prop :=
  ∀ (s : State) (n : Link) (tag : Byte) (a : UpAddr) (len : Byte) (data : List Byte), s.serves n →
    (∀ why, s.admission n .read a len.toNat = .error why →
      exec (.read n tag a len) s = .next (s.answered n [.result tag (.fail why)])) ∧
    (∀ why, data.length = len.toNat → data.length ≤ 249 → s.admission n .write a len.toNat = .error why →
      exec (.writeConfirmed n tag a len data) s = .next (s.answered n [.result tag (.fail why)])) ∧
    (∀ cause,
      (cause = .queueFull ∧ 16 ≤ s.ticketedCount n) ∨
        (cause = .noTicketGranted ∧ s.ticketedCount n < 16 ∧ (s.quota.get n ≤ s.holding n ∨ s.lowestFree = none)) →
      let busy := (({ s.answered n [.result tag .busy] with
        adm := s.adm.set n { s.adm.get n with busy := rise (s.adm.get n).busy } } : State).raise
          (.ticketExhausted n cause tag a))
      (∀ w, s.admission n .read a len.toNat = .ok w → exec (.read n tag a len) s = .next busy) ∧
      (∀ w, data.length = len.toNat → s.admission n .write a len.toNat = .ok w →
        exec (.writeConfirmed n tag a len data) s = .next busy))

/-- R36, R37, R74, R75, R76: an admitted ticketed request takes the lowest-numbered FREE ticket, which is QUEUED with the
fields of the request and its window, joins the tail of its link's queue, and is answered PENDING unless it is DIRECT.
It is DIRECT when its window has a hold and its link holds no DIRECT ticket. -/
def Obligations.TicketedRequestsAreAdmitted : Prop :=
  ∀ (s : State) (n : Link) (tag : Byte) (a : UpAddr) (len : Byte) (data : List Byte) (w : WindowRecord) (t : Fin 24),
    s.serves n → s.ticketedCount n < 16 → s.holding n < s.quota.get n → s.lowestFree = some t →
    let mode := match w.hold with
      | some us => if s.holdsDirect n then .deferred else .direct (s.now + us)
      | none => .deferred
    let frames := if mode = .deferred then [.result tag (.pending t (s.ticket t).gen)] else []
    let admitted := fun (op : TicketOp) (d : List Byte) =>
      { s.answered n frames with
        tickets := s.tickets.set t ⟨(s.ticket t).gen,
          .queued ⟨n, tag, op, w.slot, w.translate a, w.width, len.toNat, a⟩ d mode⟩
        queues := s.queues.set n (s.queue n ++ [.ticketed t]) }
    (s.admission n .read a len.toNat = .ok w → exec (.read n tag a len) s = .next (admitted .read [])) ∧
    (s.admission n .write a len.toNat = .ok w → data.length = len.toNat →
      exec (.writeConfirmed n tag a len data) s = .next (admitted .confirmedWrite data))

/-- R77, R192: a WRITE with a granted credit consumes it and joins the tail of its link's queue when it passes the checks;
one without is a credit overrun. -/
def Obligations.PostedWritesTakeACredit : Prop :=
  ∀ (s : State) (n : Link) (a : UpAddr) (len : Byte) (data : List Byte),
    s.serves n → data.length = len.toNat →
    (∀ w, 0 < (s.port n).granted → s.admission n .write a len.toNat = .ok w →
      exec (.write n a len data) s = .next
        { s with
          ports := s.ports.set n { s.port n with
            framesTaken := rise (s.port n).framesTaken, granted := (s.port n).granted - 1 }
          queues := s.queues.set n
            (s.queue n ++ [.posted ⟨a, w.slot, w.translate a, w.width, len.toNat, data, w.chaining⟩]) }) ∧
    ((s.port n).granted = 0 → data.length ≤ 250 →
      exec (.write n a len data) s = .next
        ({ s with
            ports := s.ports.set n { s.port n with
              framesTaken := rise (s.port n).framesTaken, overruns := rise (s.port n).overruns } }.raise
          (.linkFault n .creditOverrun)))

/-- R69, R193: a posted write that fails a check consumes its credit, counts as an access fault, raises ACCESS_FAULT, and
its credit is then reported; a report at an UP link forms one CREDIT with all that is owed, and a DOWN link ignores it. -/
def Obligations.DroppedPostedWritesReturnTheirCredit : Prop :=
  (∀ (s : State) (n : Link) (a : UpAddr) (len : Byte) (data : List Byte) (why : FailReason),
    s.serves n → data.length = len.toNat → data.length ≤ 250 → 0 < (s.port n).granted →
    s.admission n .write a len.toNat = .error why →
    exec (.write n a len data) s = .next
      (({ s with
          ports := s.ports.set n { s.port n with
            framesTaken := rise (s.port n).framesTaken, granted := (s.port n).granted - 1 }
          adm := s.adm.set n { s.adm.get n with accessFaults := rise (s.adm.get n).accessFaults } }.raise
        (.accessFault n why a)).report n 1)) ∧
  (∀ (s : State) (n : Link) (count : Nat),
    ((s.port n).up = true → s.report n count =
      { s with ports := s.ports.set n { s.port n with
          outbound := (s.port n).outbound ++ [.credit ((s.port n).owed + count)]
          granted := (s.port n).granted + ((s.port n).owed + count), owed := 0 } }) ∧
    ((s.port n).up = false → s.report n count = s))

/-- Law 7 (R194) and the bounds of law 6 on the work queues (R70, R84) are kept by every step. -/
def Obligations.CreditsAddUpToSixteen : Prop :=
  ∀ s t : State, s.CreditLaw → step s = .next t → t.CreditLaw

/-! ### Queues and arbiter -/

/-- R86, R87, R88: the head of a queue whose slot is not ONLINE leaves with the reason of the slot's state: a ticket
completes, a posted write counts as lost, raises DOWNSTREAM_FAULT and reports its credit. -/
def Obligations.HeadDisposalByTheSlotState : Prop :=
  ∀ (s : State) (n : Link) (rest : List WorkEntry) (slot : Fin 16), s.resetPin = false → s.online slot = false →
    let why := match (s.slot slot).state with
      | .fenced _ => FailReason.fenced
      | _ => .offline
    (∀ t r d m, s.queue n = .ticketed t :: rest → (s.ticket t).st = .queued r d m → r.slot = slot →
      exec (.headDisposal n) s = .next ({ s with queues := s.queues.set n rest }.complete t (.fail why))) ∧
    (∀ e, s.queue n = .posted e :: rest → e.slot = slot →
      exec (.headDisposal n) s = .next
        (({ s with
            queues := s.queues.set n rest
            slots := s.slots.set slot { s.slot slot with postedLost := rise (s.slot slot).postedLost } }.raise
          (.downstreamFault n slot why e.upstream)).report n 1))

/-- R38, R90, R105, R113, R129: what a grant does, by the kind of the head of the chosen source, and which source is
chosen: the first eligible one in the cyclic order from the pointer. A work queue is eligible when its head names an
ONLINE slot, by its own field or by the QUEUED ticket it names (an entry whose ticket is not QUEUED is not eligible:
log 18); the probe queue is when it is not empty. -/
def Obligations.GrantStartsTheTransaction : Prop :=
  (∀ (s : State) (n : Link), s.eligible (sourceOf n) = true ↔
    ∃ (e : WorkEntry) (rest : List WorkEntry) (slot : Fin 16), s.queue n = e :: rest ∧ (s.slot slot).state = .online ∧
      ((∃ p, e = .posted p ∧ p.slot = slot) ∨
        ∃ t r d m, e = .ticketed t ∧ (s.ticket t).st = .queued r d m ∧ r.slot = slot)) ∧
  (∀ s : State, s.eligible .prq = true ↔ s.probes ≠ []) ∧
  (∀ (s : State) (n : Link) (rest : List WorkEntry), s.resetPin = false → s.bpc = .idle →
    s.chosen = some (sourceOf n) →
    (∀ e, s.queue n = .posted e :: rest →
      exec .arbiterGrant s = .next
        { { s with pointer := (sourceOf n).next, queues := s.queues.set n rest }.report n 1 with
          bpc := .addressing (.postedWrite n e) (some (rowOf e.addr)) (s.now + s.timeoutSel.micros)
          bus := ⟨some e.slot, .select .write e.addr (e.len / e.width.toNat)⟩ }) ∧
    (∀ t r d m, s.queue n = .ticketed t :: rest → (s.ticket t).st = .queued r d m →
      exec .arbiterGrant s = .next
        { s with
          pointer := (sourceOf n).next
          queues := s.queues.set n rest
          tickets := s.tickets.set t ⟨(s.ticket t).gen, .issued r d m⟩
          bpc := .addressing (.ticketed t r d) none (s.now + s.timeoutSel.micros)
          bus := ⟨some r.slot,
            .select (if r.op = .read then .read else .write) r.addr (r.len / r.width.toNat)⟩ })) ∧
  (∀ (s : State) (i : Fin 16) (rest : List (Fin 16)) (st : ProbeStage) (prior : PriorState), s.resetPin = false →
    s.bpc = .idle → s.chosen = some .prq → s.probes = i :: rest → (s.slot i).state = .probing st prior →
    exec .arbiterGrant s = .next
      { s with
        pointer := .wq0
        probes := rest
        slots := s.slots.set i { s.slot i with state := .probing .issued prior }
        bpc := .addressing (.probe i) none (s.now + s.timeoutSel.micros)
        bus := ⟨some i, .select .probe 0 1⟩ }) ∧
  (∀ (s : State) (src : Source), s.chosen = some src ↔
    s.eligible src = true ∧
      (src = s.pointer ∨ s.eligible s.pointer = false ∧
        (src = s.pointer.next ∨ s.eligible s.pointer.next = false ∧ src = s.pointer.next.next)))

/-- R89, R103 (law 5): the controller leaves IDLE at a grant alone, toward a slot that is ONLINE when it is granted or that
the probe queue names. -/
def Obligations.OnlyAGrantStartsATransaction : Prop :=
  ∀ (c : Instr) (s t : State), s.bpc = .idle → exec c s = .next t → t.bpc ≠ .idle →
    c = .arbiterGrant ∧ ∃ op, t.bpc.operation? = some op ∧
      ((∃ i, op = .probe i ∧ i ∈ s.probes) ∨ (∀ i, op ≠ .probe i) ∧ s.online op.slot = true)

/-! ### Backplane -/

/-- R104, R106, R107, R109, R113: ACCEPT of a select begins the beats, and for any kind but PROBE clears the
consecutive-timeout count of the slot; WAIT restarts the phase timer with the selection in force. -/
def Obligations.SelectAnswers : Prop :=
  ∀ (s : State) (op : Operation) (row : Option ModAddr) (timer : Nat), s.resetPin = false →
    s.bpc = .addressing op row timer →
    exec .selectAccept s = .next
      { s with
        bpc := .transfer op row (s.now + s.timeoutSel.micros) 0 []
        bus := ⟨some op.slot, if op.code = .write then .writeBeat none (op.lanes 0) else .readBeat⟩
        slots := match op with
          | .probe _ => s.slots
          | _ => s.slots.set op.slot { s.slot op.slot with consecutive := 0 } } ∧
    exec .selectWait s = .next { s with bpc := .addressing op row (s.now + s.timeoutSel.micros) }

/-- R115, R118 to R122: a REJECT, an ERROR beat and the expiry of the phase timer end the transaction: the outcome report
(for a probe, the result no module), DOWNSTREAM_FAULT for a posted write or a ticketed TIMEOUT, the completion with FAIL,
and the return to IDLE, in this order. The outcome report itself is in SlotReportsCountFenceAndProbe. (The time after an
expiry is the model's, log 4. While another running timer ends earlier the phase timer cannot have run out, and the
command does nothing: log 4.) -/
def Obligations.FailedTransactionsEnd : Prop :=
  let ended := fun (s : State) (op : Operation) (f : Failure) => match op with
    | .probe i => { s.probeResult i none with bpc := .idle, bus := .released }
    | .postedWrite n e =>
      { (s.reportFailure e.slot f true).raise (.downstreamFault n e.slot f.reason e.upstream) with
        bpc := .idle, bus := .released }
    | .ticketed t r _ =>
      let reported := s.reportFailure r.slot f false
      let raised := match f with
        | .timeout => reported.raise (.downstreamFault r.owner r.slot .timeout r.upstream)
        | _ => reported
      { raised.complete t (.fail f.reason) with bpc := .idle, bus := .released }
  ∀ (s : State) (op : Operation) (row : Option ModAddr) (timer i : Nat) (got : List Byte), s.resetPin = false →
    (s.bpc = .addressing op row timer → exec .selectReject s = .next (ended s op .rejected)) ∧
    (s.bpc = .transfer op row timer i got → op.code = .write →
      exec .writeBeatError s = .next (ended s op .dataError)) ∧
    (s.bpc = .transfer op row timer i got → op.code ≠ .write →
      exec .readBeatError s = .next (ended s op .dataError)) ∧
    (s.bpc = .addressing op row timer ∨ s.bpc = .transfer op row timer i got →
      ((∀ x ∈ s.timerEnds, timer ≤ x) →
        exec .phaseTimerExpiry s = .next (ended { s with now := max s.now timer } op .timeout)) ∧
      ((∃ x ∈ s.timerEnds, x < timer) → exec .phaseTimerExpiry s = .next s))

/-- R130, R132, R133: what the slot table does with the reports of the controller. The counter of a failed outcome and, for
a posted write, the posted-lost counter rise; a TIMEOUT raises the consecutive count, to at most 7, and fences an ONLINE
slot when the count reaches the fault limit, with SLOT_CHANGE cause FAULTS. A probe result acts on a slot that is PROBING
with probe stage ISSUED alone: an identity makes it ONLINE with that identity, no module makes it OFFLINE with identity
0; the count becomes 0 and SLOT_CHANGE is raised. -/
def Obligations.SlotReportsCountFenceAndProbe : Prop :=
  (∀ (s : State) (i : Fin 16) (posted : Bool),
    let lost := if posted then rise (s.slot i).postedLost else (s.slot i).postedLost
    let count := if 7 ≤ (s.slot i).consecutive then 7 else (s.slot i).consecutive + 1
    let timedOut := { s.slot i with
      timeouts := rise (s.slot i).timeouts, consecutive := count, postedLost := lost }
    s.reportFailure i .rejected posted =
      { s with slots := s.slots.set i { s.slot i with rejects := rise (s.slot i).rejects, postedLost := lost } } ∧
    s.reportFailure i .dataError posted =
      { s with slots := s.slots.set i { s.slot i with
          dataErrors := rise (s.slot i).dataErrors, postedLost := lost } } ∧
    ((s.slot i).state = .online ∧ s.faultLimit ≤ count → s.reportFailure i .timeout posted =
      { s with slots := s.slots.set i { timedOut with state := .fenced .faults } }.raise
        (.slotChange i .online .fenced .faults (s.slot i).identity)) ∧
    (¬((s.slot i).state = .online ∧ s.faultLimit ≤ count) → s.reportFailure i .timeout posted =
      { s with slots := s.slots.set i timedOut })) ∧
  (∀ (s : State) (i : Fin 16) (prior : PriorState) (ident : BitVec 32),
      ((s.slot i).state = .probing .issued prior →
        s.probeResult i (some ident) =
          { s with slots := s.slots.set i { s.slot i with
              state := .online, identity := ident, consecutive := 0 } }.raise
            (.slotChange i .probing .online .found ident) ∧
        s.probeResult i none =
          { s with slots := s.slots.set i { s.slot i with
              state := .offline, identity := 0, consecutive := 0 } }.raise
            (.slotChange i .probing .offline .absent 0)) ∧
      ((∀ p, (s.slot i).state ≠ .probing .issued p) → ∀ found, s.probeResult i found = s))

/-- R109, R116, R118: an accepted write beat is followed by the next beat; after the last beat a confirmed write completes
with DONE, a posted write continues its run with the head of its link's queue when R92 allows it, and ends with success
otherwise. (That the CONTINUE with its beat count stands on the lines together with the first beat is the model's
reading, log 17: the spec does not say whether it stands beside that beat or before it.) -/
def Obligations.WriteBeatsAdvance : Prop :=
  ∀ (s : State) (row : Option ModAddr) (timer i : Nat) (got : List Byte), s.resetPin = false →
    (∀ op, op.code = .write → i + 1 < op.beats → s.bpc = .transfer op row timer i got →
      exec .writeBeatAccept s = .next
        { s with
          bpc := .transfer op row (s.now + s.timeoutSel.micros) (i + 1) []
          bus := ⟨some op.slot, .writeBeat none (op.lanes (i + 1))⟩ }) ∧
    (∀ t r d, r.op = .confirmedWrite → r.len / r.width.toNat ≤ i + 1 →
      s.bpc = .transfer (.ticketed t r d) row timer i got →
      exec .writeBeatAccept s = .next { s.complete t .done with bpc := .idle, bus := .released }) ∧
    (∀ n e, e.len / e.width.toNat ≤ i + 1 → s.bpc = .transfer (.postedWrite n e) row timer i got →
      (s.continuation n e row = none →
        exec .writeBeatAccept s = .next { s with bpc := .idle, bus := .released }) ∧
      (∀ next rest, s.continuation n e row = some (next, rest) →
        exec .writeBeatAccept s = .next
          { { s with queues := s.queues.set n rest }.report n 1 with
            bpc := .transfer (.postedWrite n next) row (s.now + s.timeoutSel.micros) 0 []
            bus := ⟨some next.slot, .writeBeat (some (next.len / next.width.toNat))
              ((Operation.postedWrite n next).lanes 0)⟩ }))

/-- R92, R93: a run continues with the head of its link's queue exactly when the head is a posted entry for the run's slot,
that slot is ONLINE, its address follows the current write, the widths are equal, both writes allow chaining, and it lies
in the row in which the run began. -/
def Obligations.RunsContinueInTheirRow : Prop :=
  ∀ (s : State) (n : Link) (cur e : PostedEntry) (row : ModAddr) (rest : List WorkEntry),
    (s.continuation n cur (some row) = some (e, rest) ↔
      s.queue n = .posted e :: rest ∧ cur.chaining = true ∧ e.slot = cur.slot ∧ s.online cur.slot = true ∧
        e.addr.toNat = cur.addr.toNat + cur.len ∧ e.width = cur.width ∧ e.chaining = true ∧
        row.toNat ≤ e.addr.toNat ∧ e.addr.toNat + e.len ≤ row.toNat + 64) ∧
    ((∀ head tail, s.queue n ≠ .posted head :: tail) → s.continuation n cur (some row) = none)

/-- R108, R111, R115, R130: a read beat whose lanes in use all hold an odd number of ones with their parity bit is kept; the
last one completes a READ with all bytes, and gives a probe its identity; a beat with a wrong lane ends the transaction
with DATA_ERROR. -/
def Obligations.ReadBeatsAreChecked : Prop :=
  (∀ (b : Byte) (p : Bool), laneSound (b, p) = true ↔ (ones b + if p then 1 else 0) % 2 = 1) ∧
  ∀ (s : State) (row : Option ModAddr) (timer i : Nat) (got : List Byte) (lanes : BitVec 32) (parity : BitVec 4)
      (op : Operation),
    s.resetPin = false → s.bpc = .transfer op row timer i got → op.code ≠ .write →
    let used := (laneList lanes parity).take op.width.toNat
    let bytes := got ++ used.map (·.1)
    (used.all laneSound = true → i + 1 < op.beats →
      exec (.readBeatData lanes parity) s = .next
        { s with
          bpc := .transfer op row (s.now + s.timeoutSel.micros) (i + 1) bytes
          bus := ⟨some op.slot, .readBeat⟩ }) ∧
    (∀ t r d, op = .ticketed t r d → used.all laneSound = true → op.beats ≤ i + 1 →
      exec (.readBeatData lanes parity) s = .next
        { s.complete t (.data bytes) with bpc := .idle, bus := .released }) ∧
    (∀ k, op = .probe k → used.all laneSound = true →
      exec (.readBeatData lanes parity) s = .next
        { s.probeResult k (if lanes = 0 then none else some lanes) with bpc := .idle, bus := .released }) ∧
    (used.all laneSound = false →
      exec (.readBeatData lanes parity) s = .next (s.endFailed op .dataError))

/-- R112: an answer that is not awaited is ignored. Which row is the answer of which step is the model's, log 12: a
SELECT row answers a select alone, a WRITE_BEAT row a write beat alone, a READ_BEAT row a read beat alone. (An
expiry of a phase timer that does not run is no event either: log 23.) -/
def Obligations.AnswersNotAwaitedAreIgnored : Prop :=
  ∀ (s : State) (lanes : BitVec 32) (parity : BitVec 4),
    (s.bpc = .idle → ∀ c ∈ [Instr.selectAccept, .selectReject, .selectWait, .writeBeatAccept, .writeBeatError,
      .readBeatData lanes parity, .readBeatError, .phaseTimerExpiry], exec c s = .next s) ∧
    (∀ op row timer, s.bpc = .addressing op row timer → ∀ c ∈ [Instr.writeBeatAccept, .writeBeatError,
      .readBeatData lanes parity, .readBeatError], exec c s = .next s) ∧
    (∀ op row timer i got, s.bpc = .transfer op row timer i got →
      (∀ c ∈ [Instr.selectAccept, .selectReject, .selectWait], exec c s = .next s) ∧
      (op.code = .write → ∀ c ∈ [Instr.readBeatData lanes parity, .readBeatError], exec c s = .next s) ∧
      (op.code ≠ .write → ∀ c ∈ [Instr.writeBeatAccept, .writeBeatError], exec c s = .next s))

/-- The backplane lines follow the controller (R105, R112), the probe queue names the slots whose probe is QUEUED (R102,
R128), and the settings and counts stay in range (R34, R126): kept by every step. -/
def Obligations.BackplaneAndSlotLawsAreKept : Prop :=
  ∀ s t : State, s.BusLaw → s.ProbeLaw → s.RangeLaw → step s = .next t → t.BusLaw ∧ t.ProbeLaw ∧ t.RangeLaw

/-! ### Slots -/

/-- R128, R135: SLOT_PROBE of an OFFLINE or FENCED slot queues its probe, and is refused for a PROBING or ONLINE one;
SLOT_FENCE makes any slot FENCED by COMMAND, takes a waiting probe out of the probe queue, and answers the state the slot
held. A slot operand above 15 is refused. -/
def Obligations.SlotProbeAndSlotFence : Prop :=
  ∀ (s : State) (n : Link) (tag : Byte) (i : Fin 16), s.serves n → s.holdsLease n = true →
    let probed := fun (prior : PriorState) (was : SlotCode) =>
      (({ s.counted n with
          probes := s.probes ++ [i]
          slots := s.slots.set i { s.slot i with state := .probing .queued prior } } : State).raise
        (.slotChange i was .probing .probe (s.slot i).identity)).sent n [.mgmtReply tag 0x31 .ok []]
    let fenced := { s.slot i with state := .fenced .command }
    let left := match (s.slot i).state with
      | .probing .queued _ => s.probes.filter (· ≠ i)
      | _ => s.probes
    let was := (s.slot i).state.name
    exec (.slotProbe n tag [byte i.val]) s = .next (match (s.slot i).state with
      | .offline => probed .offline .offline
      | .fenced c => probed (.fenced c) .fenced
      | _ => s.replied n tag 0x31 .slotState []) ∧
    exec (.slotFence n tag [byte i.val]) s = .next (match (s.slot i).state with
      | .fenced _ => { s with slots := s.slots.set i fenced }.replied n tag 0x32 .ok [was.code]
      | _ => (({ s.counted n with probes := left, slots := s.slots.set i fenced } : State).raise
          (.slotChange i was .fenced .command (s.slot i).identity)).sent n [.mgmtReply tag 0x32 .ok [was.code]]) ∧
    (∀ b : Byte, 16 ≤ b.toNat →
      exec (.slotProbe n tag [b]) s = .next (s.replied n tag 0x31 .badSlot []) ∧
      exec (.slotFence n tag [b]) s = .next (s.replied n tag 0x32 .badSlot []))

/-- R138: the assertion of a deasserted alert input raises MODULE_ALERT with the slot and its identity when the slot
is ONLINE, and is ignored otherwise; a level that stays, and a deassertion, raise nothing. -/
def Obligations.AlertsOfOnlineSlots : Prop :=
  ∀ (s : State) (i : Fin 16), s.resetPin = false →
    let asserted := { s with alertPin := s.alertPin.set i true }
    (s.alertPin[i] = false → s.online i = true →
      exec (.alertAssertion i true) s = .next (asserted.raise (.moduleAlert i (s.slot i).identity))) ∧
    (s.alertPin[i] = false → s.online i = false → exec (.alertAssertion i true) s = .next asserted) ∧
    (s.alertPin[i] = true → exec (.alertAssertion i true) s = .next s) ∧
    exec (.alertAssertion i false) s = .next { s with alertPin := s.alertPin.set i false }

/-! ### Notices -/

/-- R146, R148 (with law 12): a raise latches a CLEAR kind with count 1 and its detail, or raises the count of a LATCHED one
up to 255 and keeps its detail; a NOTICE with the count and detail is then formed on each UP link that enables the kind
and whose sent flag is clear, and the flag is set; on every other link nothing is formed. No other kind and nothing else
changes. -/
def Obligations.RaisesLatchAndEmit : Prop :=
  ∀ (s : State) (d : Detail),
    let u := s.raise d
    let count : Byte := match (s.kind d.kind).latch with
      | .clear => 1
      | .latched c _ => if c = 255 then 255 else c + 1
    let kept := match (s.kind d.kind).latch with
      | .clear => d
      | .latched _ old => old
    (u.kind d.kind).latch = .latched count kept ∧
    (∀ n, if (s.port n).up = true ∧ enabledIn (s.port n).enables d.kind = true ∧ (s.kind d.kind).sent.get n = false then
        u.port n = { s.port n with outbound := (s.port n).outbound ++ [.notice d.kind count kept] } ∧
          (u.kind d.kind).sent.get n = true
      else u.port n = s.port n ∧ (u.kind d.kind).sent.get n = (s.kind d.kind).sent.get n) ∧
    (∀ k, k ≠ d.kind → u.kind k = s.kind k) ∧
    u = { s with ports := u.ports, kinds := u.kinds }

/-- R147, R151: NOTICE_ENABLE replaces the sender's enable set, forms a NOTICE of every LATCHED kind in the set whose sent
flag of the link is clear, in rising kind number, and then the reply; NOTICE_ACK clears a LATCHED kind with both flags and
answers its count, and is refused for a CLEAR one. -/
def Obligations.NoticeEnableAndNoticeAck : Prop :=
  ∀ (s : State) (n : Link) (tag : Byte), s.serves n →
    (∀ set : Byte, ∃ t, exec (.noticeEnable n tag [set]) s = .next t ∧
      let formed := NoticeKind.all.filterMap fun k => match (s.kind k).latch with
        | .clear => none
        | .latched c d =>
          if enabledIn set k = true ∧ (s.kind k).sent.get n = false then some (OutFrame.notice k c d) else none
      t.port n = { s.port n with
        framesTaken := rise (s.port n).framesTaken, enables := set
        outbound := (s.port n).outbound ++ formed ++ [.mgmtReply tag 0x40 .ok [set]] } ∧
      (∀ k, t.kind k = { s.kind k with
        sent := (s.kind k).sent.set n ((s.kind k).sent.get n ||
          (enabledIn set k && decide ((s.kind k).latch ≠ .clear))) }) ∧
      t = { s with ports := s.ports.set n (t.port n), kinds := t.kinds }) ∧
    (∀ k : NoticeKind, exec (.noticeAck n tag [k.number]) s = .next (match (s.kind k).latch with
      | .clear => s.replied n tag 0x41 .notLatched []
      | .latched c _ =>
        { s with kinds := s.kinds.set k.index ⟨.clear, ⟨false, false⟩⟩ }.replied n tag 0x41 .ok [c])) ∧
    (∀ b : Byte, b.toNat = 0 ∨ 9 ≤ b.toNat →
      exec (.noticeAck n tag [b]) s = .next (s.replied n tag 0x41 .badValue []))

/-! ### Management -/

/-- R158 to R161 (law 11): an unknown code, operand bytes of the wrong number, and a command that needs the lease from a
link that does not hold it, are answered with their status and change nothing else. -/
def Obligations.ManagementFramesAreChecked : Prop :=
  ∀ (s : State) (n : Link) (tag : Byte) (ops : List Byte), s.serves n →
    (∀ code, exec (.mgmtUnknownCommand n tag code ops) s = .next (s.replied n tag code .unknownCommand [])) ∧
    (∀ row ∈ ([(.leaseTake n tag ops, 0x02, 1), (.identify n tag ops, 0x01, 0), (.countersRead n tag ops, 0x50, 2),
        (.windowRead n tag ops, 0x14, 2), (.ticketSummary n tag ops, 0x22, 0), (.slotStatus n tag ops, 0x34, 1),
        (.noticeEnable n tag ops, 0x40, 1), (.noticeAck n tag ops, 0x41, 1), (.noticeRead n tag ops, 0x42, 1)] :
        List (Instr × Byte × Nat)),
      ops.length ≠ row.2.2 → exec row.1 s = .next (s.replied n tag row.2.1 .badValue [])) ∧
    (∀ row ∈ ([(.leaseRenew n tag ops, 0x03, 0), (.leaseDrop n tag ops, 0x04, 0), (.countersClear n tag ops, 0x51, 2),
        (.gateReset n tag ops, 0x52, 0), (.windowStage n tag ops, 0x10, 18), (.windowUnstageClear n tag ops, 0x11, 2),
        (.windowUnstageWithdraw n tag ops, 0x11, 2), (.windowCommit n tag ops, 0x12, 1),
        (.windowLock n tag ops, 0x13, 2), (.setQuota n tag ops, 0x20, 2), (.setDiscard n tag ops, 0x21, 1),
        (.setBpTimeout n tag ops, 0x30, 1), (.slotProbe n tag ops, 0x31, 1), (.slotFence n tag ops, 0x32, 1),
        (.setFaultLimit n tag ops, 0x33, 1)] : List (Instr × Byte × Nat)),
      (ops.length ≠ row.2.2 → exec row.1 s = .next (s.replied n tag row.2.1 .badValue [])) ∧
      (ops.length = row.2.2 → s.holdsLease n = false →
        exec row.1 s = .next (s.replied n tag row.2.1 .notOwner [])))

/-- R25, R53, R140, R152, R173: the reading commands answer what they read and change nothing else; the nine counts of
TICKET_SUMMARY add up to 24. A slot above 15 and a kind number outside 1 to 8 are refused. -/
def Obligations.ReadsAnswerAndChangeNothing : Prop :=
  (∀ (s : State) (n : Link) (tag : Byte), s.serves n →
    exec (.identify n tag []) s =
      .next (s.replied n tag 0x01 .ok [0x53, 0xA1, 0x02, 0x16, 0x03, n.num, 32, 24, 16]) ∧
    (∀ i : Fin 32, exec (.windowRead n tag [byte i.val, 0]) s = .next (s.replied n tag 0x14 .ok
      ([byte s.locks[i].rank, s.staging[i].code] ++ match s.active[i] with
        | some r => 1 :: r.bytes
        | none => [0]))) ∧
    (∀ i : Fin 32, exec (.windowRead n tag [byte i.val, 1]) s = .next (s.replied n tag 0x14 .ok
      ([byte s.locks[i].rank, s.staging[i].code] ++ match s.staging[i] with
        | .set r => 1 :: r.bytes
        | _ => [0]))) ∧
    exec (.ticketSummary n tag []) s = .next (s.replied n tag 0x22 .ok
      (s.linkSummary .l0 ++ s.linkSummary .l1 ++ [byte (s.countTickets fun st => st = .free)])) ∧
    (∀ i : Fin 16, exec (.slotStatus n tag [byte i.val]) s = .next (s.replied n tag 0x34 .ok
      ([(s.slot i).state.name.code] ++ be32 (s.slot i).identity ++ [byte (s.slot i).consecutive] ++
        (s.slot i).state.fieldBytes ++ be32 (s.slot i).timeouts ++ be32 (s.slot i).rejects ++
        be32 (s.slot i).dataErrors ++ be32 (s.slot i).postedLost ++ [flagByte s.alertPin[i], byte s.faultLimit]))) ∧
    (∀ k : NoticeKind, exec (.noticeRead n tag [k.number]) s = .next (s.replied n tag 0x42 .ok
      ((match (s.kind k).latch with
        | .clear => [0, 0, 0] ++ List.replicate 8 0
        | .latched c d => [1, c, 1] ++ d.bytes) ++
        [flagByte ((s.kind k).sent.get .l0), flagByte ((s.kind k).sent.get .l1),
          flagByte (enabledIn (s.port n).enables k)]))) ∧
    (∀ b : Byte, 16 ≤ b.toNat → exec (.slotStatus n tag [b]) s = .next (s.replied n tag 0x34 .badSlot [])) ∧
    (∀ b : Byte, b.toNat = 0 ∨ 9 ≤ b.toNat →
      exec (.noticeRead n tag [b]) s = .next (s.replied n tag 0x42 .badValue []))) ∧
  (∀ s : State,
    (Link.all.map fun n => s.countTickets (·.isQueuedOf n) + s.countTickets (·.isIssuedOf n) +
      s.countTickets (·.isReadyOf n) + s.countTickets (·.isDetachedOf n)).sum +
      s.countTickets (fun st => st = .free) = 24)

/-- R174, R175, R176: COUNTERS_READ answers the counters of the group, the taking of its own frame included, and changes
nothing else; COUNTERS_CLEAR sets them to 0 in every block that holds one; the group operand is checked in its order. -/
def Obligations.CountersAreReadAndCleared : Prop :=
  ∀ (s : State) (n : Link) (tag : Byte), s.serves n →
    (∀ m : Link,
      let taken := ((s.counted n).port m).framesTaken
      exec (.countersRead n tag [0, m.num]) s = .next (s.replied n tag 0x50 .ok
        (be32 taken ++ be32 (s.port m).shapeDrops ++ be32 (s.port m).downDrops ++ be32 (s.port m).overruns ++
          be32 (s.adm.get m).busy ++ be32 (s.adm.get m).accessFaults ++ be32 (s.flushed.get m)))) ∧
    (∀ i : Fin 16, exec (.countersRead n tag [1, byte i.val]) s = .next (s.replied n tag 0x50 .ok
      (be32 (s.slot i).timeouts ++ be32 (s.slot i).rejects ++ be32 (s.slot i).dataErrors ++
        be32 (s.slot i).postedLost))) ∧
    exec (.countersRead n tag [2, 0]) s = .next (s.replied n tag 0x50 .ok (be32 s.expired)) ∧
    (s.holdsLease n = true →
      (∀ m : Link, ∃ t, exec (.countersClear n tag [0, m.num]) s = .next t ∧
        s.counters (.link m) = [(s.port m).framesTaken, (s.port m).shapeDrops, (s.port m).downDrops,
          (s.port m).overruns, (s.adm.get m).busy, (s.adm.get m).accessFaults, s.flushed.get m] ∧
        t.counters (.link m) = [0, 0, 0, 0, 0, 0, 0] ∧
        t = { s.replied n tag 0x51 .ok [] with
          ports := (s.replied n tag 0x51 .ok []).ports.set m
            { (s.replied n tag 0x51 .ok []).port m with
              framesTaken := 0, shapeDrops := 0, downDrops := 0, overruns := 0 }
          adm := s.adm.set m ⟨0, 0⟩, flushed := s.flushed.set m 0 }) ∧
      (∀ i : Fin 16, exec (.countersClear n tag [1, byte i.val]) s = .next
        ({ s with slots := s.slots.set i { s.slot i with
            timeouts := 0, rejects := 0, dataErrors := 0, postedLost := 0 } }.replied n tag 0x51 .ok [])) ∧
      exec (.countersClear n tag [2, 0]) s = .next ({ s with expired := 0 }.replied n tag 0x51 .ok [])) ∧
    (∀ ty num : Byte, ∀ st,
      (st = Status.badValue ∧ (3 ≤ ty.toNat ∨ (ty = 0 ∧ 2 ≤ num.toNat) ∨ (ty = 2 ∧ num ≠ 0))) ∨
        (st = .badSlot ∧ ty = 1 ∧ 16 ≤ num.toNat) →
      exec (.countersRead n tag [ty, num]) s = .next (s.replied n tag 0x50 st []) ∧
      (s.holdsLease n = true →
        exec (.countersClear n tag [ty, num]) s = .next (s.replied n tag 0x51 st [])))

/-- R163 to R168, R172: a FREE lease is taken with LEASE_CHANGE raised before the reply; the holder takes it anew with a
new duration; the other link is refused with the holder and the time left in units of 100 ms, rounded up. A renewal moves
the expiry; a drop and an expiry free the lease, empty the staging cells and raise LEASE_CHANGE with the holder and its
duration. (The time after an expiry is the model's, log 4, and is left open here. While another running timer ends
earlier the expiry cannot have passed, and the command does nothing: log 4.) -/
def Obligations.LeaseIsTakenRenewedAndLost : Prop :=
  (∀ (s : State) (n : Link) (tag d : Byte), s.serves n →
      (d = 0 → exec (.leaseTake n tag [d]) s = .next (s.replied n tag 0x02 .badValue [])) ∧
      (d ≠ 0 → s.lease = none → exec (.leaseTake n tag [d]) s = .next
        (({ s.counted n with lease := some ⟨n, d, s.now + d.toNat * 100000⟩ }.raise
          (.leaseChange .taken n d)).sent n [.mgmtReply tag 0x02 .ok [n.num, d]])) ∧
      (∀ l, d ≠ 0 → s.lease = some l → l.holder = n → exec (.leaseTake n tag [d]) s = .next
        ({ s with lease := some ⟨n, d, s.now + d.toNat * 100000⟩ }.replied n tag 0x02 .ok [n.num, d])) ∧
      (∀ l, d ≠ 0 → s.lease = some l → l.holder ≠ n → s.now < l.expiry → l.expiry ≤ s.now + 25500000 →
        ∃ left, 1 ≤ left ∧ left ≤ 255 ∧ (left - 1) * 100000 < l.expiry - s.now ∧ l.expiry - s.now ≤ left * 100000 ∧
          exec (.leaseTake n tag [d]) s = .next (s.replied n tag 0x02 .leaseHeld [l.holder.num, byte left]))) ∧
  (∀ (s : State) (n : Link) (tag : Byte) (l : Lease), s.lease = some l →
      (s.serves n → l.holder = n → exec (.leaseRenew n tag []) s = .next
        ({ s with lease := some ⟨n, l.duration, s.now + l.duration.toNat * 100000⟩ }.replied n tag 0x03 .ok
          [l.duration])) ∧
      (s.serves n → l.holder = n → exec (.leaseDrop n tag []) s = .next
        (({ s.counted n with lease := none, staging := .replicate 32 .none }.raise
          (.leaseChange .dropped n l.duration)).sent n [.mgmtReply tag 0x04 .ok []])) ∧
      (s.resetPin = false → (∀ x ∈ s.timerEnds, l.expiry ≤ x) → ∃ time, exec .leaseExpiry s = .next
        ({ s with now := time, lease := none, staging := .replicate 32 .none }.raise
          (.leaseChange .expired l.holder l.duration))) ∧
      (s.resetPin = false → (∃ x ∈ s.timerEnds, x < l.expiry) → exec .leaseExpiry s = .next s))

/-- R55, R100, R142, R155, R177, R178: a gate reset from the holder of the lease. Every DIRECT ticket is answered
FAIL(FLUSHED); every QUEUED and READY ticket is freed, the ISSUED one is detached; the queues and the probe queue are
emptied, the posted entries count as flushed and their credits return; a slot whose probe waited returns to its prior
state; SLOT_CHANGE, CLEAR like every other kind before, is then raised with cause RESET once for each, head first: it is
latched with their number and the detail of the first, and forms one NOTICE, of the first raise, on each UP link that
enables it; the pointer names WQ0; the reply is the last frame. Everything else is kept, the waiting frames included
(R185). Stated under the law of the probe queue. -/
def Obligations.GateResetClearsTheTraffic : Prop :=
  ∀ (s : State) (n : Link) (tag : Byte), s.serves n → s.holdsLease n = true → s.ProbeLaw →
    let returned := fun (i : Fin 16) => Detail.slotChange i .probing
      (match (s.slot i).state with
        | .probing _ (.fenced _) => .fenced
        | _ => .offline) .reset (s.slot i).identity
    let told := fun (m : Link) => (s.port m).up && enabledIn (s.port m).enables .slotChange
    ∃ t, exec (.gateReset n tag []) s = .next t ∧
      (∀ k : Fin 24, t.ticket k = match (s.ticket k).st with
        | .queued _ _ _ => ⟨(s.ticket k).gen + 1, .free⟩
        | .ready _ _ _ => ⟨(s.ticket k).gen + 1, .free⟩
        | .issued r _ _ => ⟨(s.ticket k).gen, .detached r⟩
        | _ => s.ticket k) ∧
      t.queues = ⟨[], []⟩ ∧ t.probes = [] ∧ t.pointer = .wq0 ∧
      (∀ m, t.flushed.get m = riseBy (s.postedCount m) (s.flushed.get m)) ∧
      (∀ i : Fin 16, t.slot i = match (s.slot i).state with
        | .probing .queued .offline => { s.slot i with state := .offline }
        | .probing .queued (.fenced c) => { s.slot i with state := .fenced c }
        | _ => s.slot i) ∧
      (∀ k, k ≠ .slotChange → t.kind k = ⟨.clear, ⟨false, false⟩⟩) ∧
      t.kind .slotChange = (match s.probes with
        | [] => ⟨.clear, ⟨false, false⟩⟩
        | i :: _ => ⟨.latched (byte s.probes.length) (returned i), ⟨told .l0, told .l1⟩⟩) ∧
      (∀ m, t.port m = { s.port m with
        framesTaken := if m = n then rise (s.port m).framesTaken else (s.port m).framesTaken
        granted := if (s.port m).up = true ∧ s.postedCount m ≠ 0 then
          (s.port m).granted + ((s.port m).owed + s.postedCount m) else (s.port m).granted
        owed := if (s.port m).up = true ∧ s.postedCount m ≠ 0 then 0 else (s.port m).owed
        outbound := (s.port m).outbound ++
          (if (s.port m).up = true then
            (ticketNumbers.filterMap fun k =>
              if (s.ticket k).st.isDirect = true ∧ (s.ticket k).st.owner? = some m then
                (s.ticket k).st.request?.map fun r => .result r.tag (.fail .flushed)
              else none) ++
            (if s.postedCount m ≠ 0 then [.credit ((s.port m).owed + s.postedCount m)] else []) ++
            (match s.probes with
              | [] => []
              | i :: _ => if told m = true then [.notice .slotChange 1 (returned i)] else [])
          else []) ++
          (if m = n then [.mgmtReply tag 0x52 .ok []] else []) }) ∧
      t = { s with
        ports := t.ports, tickets := t.tickets, queues := t.queues, flushed := t.flushed, probes := t.probes,
        pointer := t.pointer, slots := t.slots, kinds := t.kinds }

/-! ### Link ports -/

/-- R188, R189: a HELLO on a DOWN link brings it UP with a WELCOME that grants 16 credits less its queued posted entries; a
HELLO on an UP link is a link reset first (R190, in LossOfSignalIsALinkReset). -/
def Obligations.HelloBringsTheLinkUp : Prop :=
  ∀ (s : State) (n : Link), s.takesNow n = true →
    let welcomed := fun (u : State) => (({ u with ports := u.ports.set n { u.port n with
      up := true, granted := 16 - s.postedCount n, owed := 0
      outbound := (u.port n).outbound ++ [.welcome n (16 - s.postedCount n)] } } : State).emitAll n)
    ((s.port n).up = false → exec (.hello n) s = .next (welcomed (s.counted n))) ∧
    ((s.port n).up = true → exec (.hello n) s = .next (welcomed ((s.counted n).linkReset n))) ∧
    ((s.port n).up = false → (s.port n).enables = 0 → exec (.hello n) s = .next
      { s with ports := s.ports.set n { s.port n with
          framesTaken := rise (s.port n).framesTaken, up := true, granted := 16 - s.postedCount n, owed := 0
          outbound := (s.port n).outbound ++ [.welcome n (16 - s.postedCount n)] } })

/-- R54, R99, R154, R169, R190, R191: the assertion of a deasserted loss-of-signal input is a link reset that leaves the
link DOWN: the outbound list keeps a frame in transmission alone, the enables and the link's sent flags are cleared, its
QUEUED and READY tickets are freed with their entries, its ISSUED ticket is detached, its posted entries stay, its
credits are 0, and a lease that it holds is lost with event RELEASED. Waiting frames stay (R185). The deassertion of the
input is no event: its level alone is recorded. -/
def Obligations.LossOfSignalIsALinkReset : Prop :=
  (∀ (s : State) (n : Link), s.resetPin = false →
    exec (.lossOfSignal n false) s = .next { s with losPin := s.losPin.set n false }) ∧
  ∀ (s : State) (n : Link), s.resetPin = false → s.losPin.get n = false →
    let reset : State := { s with
      losPin := s.losPin.set n true
      ports := s.ports.set n { s.port n with
        outbound := if (s.port n).transmitting then (s.port n).outbound.take 1 else []
        enables := 0 }
      kinds := Vector.ofFn fun i => { s.kinds[i] with sent := s.kinds[i].sent.set n false }
      tickets := Vector.ofFn fun t => match s.tickets[t].st with
        | .queued r _ _ => if r.owner = n then ⟨s.tickets[t].gen + 1, .free⟩ else s.tickets[t]
        | .ready r _ _ => if r.owner = n then ⟨s.tickets[t].gen + 1, .free⟩ else s.tickets[t]
        | .issued r _ _ => if r.owner = n then ⟨s.tickets[t].gen, .detached r⟩ else s.tickets[t]
        | _ => s.tickets[t]
      queues := s.queues.set n ((s.queue n).filter (·.isPosted)) }
    let released := match s.lease with
      | some l =>
        if l.holder = n then
          ({ reset with lease := none, staging := .replicate 32 .none } : State).raise
            (.leaseChange .released n l.duration)
        else reset
      | none => reset
    exec (.lossOfSignal n true) s = .next
      { released with ports := released.ports.set n { released.port n with granted := 0, owed := 0, up := false } } ∧
    exec (.lossOfSignal n false) s = .next s

/-- R1, R185, R186, R187: what becomes of an arriving frame that is not served. A frame that fails a check is dropped for
the first check it fails, counted and reported with LINK_FAULT, in either link state; a sound frame other than HELLO on a
DOWN link is counted as a down-drop; a frame that must wait joins the waiting frames, or is discarded when the receiver
is full (a free value, logs 7 and 15); while the loss-of-signal input or RESET is asserted a frame is discarded (log 8);
FRAME_WAITS_AT_RECEIVER at a port that takes frames is the model's (log 9). -/
def Obligations.FramesThatAreNotServed : Prop :=
  (∀ f : RawFrame,
    (f.crc ≠ frameCrc f.kind f.body → frameFault f = some .crcError) ∧
    (f.crc = frameCrc f.kind f.body → f.kind ∉ [1, 2, 3, 4, 5, 6, 7] → frameFault f = some .unknownKind) ∧
    (f.crc = frameCrc f.kind f.body → f.kind ∈ [1, 2, 3, 4, 5, 6, 7] →
      let fits : Prop := match f.kind.toNat with
        | 1 => f.body.length = 0
        | 2 => f.body.length = 6
        | 3 => f.body[4]?.map (fun l => 5 + l.toNat) = some f.body.length
        | 4 => f.body[5]?.map (fun l => 6 + l.toNat) = some f.body.length
        | 7 => 2 ≤ f.body.length
        | _ => f.body.length = 3
      (fits → frameFault f = none) ∧ (¬fits → frameFault f = some .lengthMismatch))) ∧
  (∀ (s : State) (n : Link) (f : RawFrame),
    (∀ why, s.takesNow n = true → frameFault f = some why →
      exec (.frameDrop n f) s = .next
        ({ s with ports := s.ports.set n { s.port n with shapeDrops := rise (s.port n).shapeDrops } }.raise
          (.linkFault n why))) ∧
    (s.takesNow n = true → (s.port n).up = false → f.body.length ≤ 255 → frameFault f = none → f.kind ≠ 1 →
      exec (decodeFrame n f) s =
        .next { s with ports := s.ports.set n { s.port n with downDrops := rise (s.port n).downDrops } }) ∧
    (s.resetPin = false → s.losPin.get n = false → s.mustWait n = true →
      let waits := { s with
        free := s.free + 1
        ports := s.ports.set n { s.port n with waiting := (s.port n).waiting ++ [f] } }
      (Config.receiverHolds s.free = true →
        exec (decodeFrame n f) s = .next waits ∧ exec (.frameWaitsAtReceiver n f) s = .next waits) ∧
      (Config.receiverHolds s.free = false →
        exec (decodeFrame n f) s = .next { s with free := s.free + 1 } ∧
          exec (.frameWaitsAtReceiver n f) s = .next { s with free := s.free + 1 })) ∧
    (s.takesNow n = true → exec (.frameWaitsAtReceiver n f) s = .next
      { s with ports := s.ports.set n { s.port n with waiting := (s.port n).waiting ++ [f] } }) ∧
    (s.resetPin = true ∨ s.losPin.get n = true →
      exec (decodeFrame n f) s = .next s ∧ exec (.frameWaitsAtReceiver n f) s = .next s))

/-- R190, R195: the head of the outbound list of an UP link begins to leave when the link is free, and leaves when it has
been sent; the rest of the list keeps its order. (A frame whose transmission began leaves also on a link that has gone
DOWN: log 13.) -/
def Obligations.OutboundFramesLeaveInOrder : Prop :=
  ∀ (s : State) (n : Link), s.resetPin = false →
    ((s.port n).up = true → (s.port n).transmitting = false → (s.port n).outbound ≠ [] →
      exec (.transmissionBegins n) s =
        .next { s with ports := s.ports.set n { s.port n with transmitting := true } }) ∧
    (∀ f rest, (s.port n).transmitting = true → (s.port n).outbound = f :: rest →
      exec (.outboundFrameSent n) s =
        .next { s with ports := s.ports.set n { s.port n with outbound := rest, transmitting := false } })

/-! ### Formats -/

/-- R200, R201, R203: the command that a frame carries is read back from its frame, for every well-formed frame command;
the command of any frame carries that frame; and the frames in a stream of their wire bytes are those frames, in order.
(A malformed WINDOW_UNSTAGE is read back as a command of the row without the clear flag: the model's choice, log 16.) -/
def Obligations.FramesReadBack : Prop :=
  (∀ (c : Instr) (f : RawFrame), c.wellFormed = true → encodeFrame c = some f → ∃ n, decodeFrame n f = c) ∧
  (∀ (n : Link) (f : RawFrame), encodeFrame (decodeFrame n f) = some f) ∧
  (∀ fs : List RawFrame, (∀ f ∈ fs, f.body.length ≤ 255) → receivedFrames (fs.flatMap RawFrame.wire) = fs)

end
end

