-- ==== Sys2Proof/Laws/State.lean ====
section
/-! SUPPORT. Beside State: one lemma for each field of each update, and what the accessors read after an update. -/

namespace Sys2Proof

/-! ### Pairs of values, and vectors -/

@[simp] theorem PerLink.get_set_self {α : Type} (p : PerLink α) (n : Link) (x : α) : (p.set n x).get n = x := by
  cases n <;> rfl

theorem PerLink.get_set {α : Type} (p : PerLink α) (n m : Link) (x : α) :
    (p.set n x).get m = if m = n then x else p.get m := by
  cases n <;> cases m <;> rfl

@[simp] theorem PerLink.get_set_other {α : Type} (p : PerLink α) (n : Link) (x : α) :
    (p.set n x).get n.other = p.get n.other := by
  cases n <;> rfl

@[simp] theorem PerLink.set_get {α : Type} (p : PerLink α) (n : Link) : p.set n (p.get n) = p := by
  cases n <;> rfl

@[simp] theorem PerLink.set_set {α : Type} (p : PerLink α) (n : Link) (x y : α) : (p.set n x).set n y = p.set n y := by
  cases n <;> rfl

@[simp] theorem PerLink.get_both {α : Type} (x : α) (n : Link) : (PerLink.both x).get n = x := by
  cases n <;> rfl

theorem PerLink.ext_get {α : Type} (p q : PerLink α) (h : ∀ n, p.get n = q.get n) : p = q := by
  cases p; cases q; have h0 := h .l0; have h1 := h .l1; simp_all [PerLink.get]

@[simp] theorem Link.other_ne (n : Link) : n.other ≠ n := by cases n <;> simp [Link.other]

@[simp] theorem Link.other_other (n : Link) : n.other.other = n := by cases n <;> rfl

theorem Link.eq_or_other (n m : Link) : m = n ∨ m = n.other := by cases n <;> cases m <;> simp [Link.other]

theorem updAt_get {α : Type} {k : Nat} (v : Vector α k) (i j : Fin k) (f : α → α) :
    (updAt v i f)[j] = if j = i then f v[i] else v[j] := by
  simp only [updAt, Fin.getElem_fin, Vector.getElem_set]
  rcases i with ⟨i, hi⟩; rcases j with ⟨j, hj⟩
  by_cases h : i = j
  · subst h; simp
  · simp [h, Ne.symm h]

theorem vector_set_get {α : Type} {k : Nat} (v : Vector α k) (i j : Fin k) (x : α) :
    (v.set i x)[j] = if j = i then x else v[j] := by
  simp only [Fin.getElem_fin, Vector.getElem_set]
  rcases i with ⟨i, hi⟩; rcases j with ⟨j, hj⟩
  by_cases h : i = j
  · subst h; simp
  · simp [h, Ne.symm h]

namespace Machine

/-! ### One lemma for each field of each update -/

@[simp] theorem State.updPort_now (s : State) (n : Link) (f : Port → Port) : (s.updPort n f).now = s.now := rfl
@[simp] theorem State.updPort_resetPin (s : State) (n : Link) (f : Port → Port) : (s.updPort n f).resetPin = s.resetPin := rfl
@[simp] theorem State.updPort_losPin (s : State) (n : Link) (f : Port → Port) : (s.updPort n f).losPin = s.losPin := rfl
@[simp] theorem State.updPort_alertPin (s : State) (n : Link) (f : Port → Port) : (s.updPort n f).alertPin = s.alertPin := rfl
@[simp] theorem State.updPort_adm (s : State) (n : Link) (f : Port → Port) : (s.updPort n f).adm = s.adm := rfl
@[simp] theorem State.updPort_active (s : State) (n : Link) (f : Port → Port) : (s.updPort n f).active = s.active := rfl
@[simp] theorem State.updPort_staging (s : State) (n : Link) (f : Port → Port) : (s.updPort n f).staging = s.staging := rfl
@[simp] theorem State.updPort_locks (s : State) (n : Link) (f : Port → Port) : (s.updPort n f).locks = s.locks := rfl
@[simp] theorem State.updPort_tickets (s : State) (n : Link) (f : Port → Port) : (s.updPort n f).tickets = s.tickets := rfl
@[simp] theorem State.updPort_quota (s : State) (n : Link) (f : Port → Port) : (s.updPort n f).quota = s.quota := rfl
@[simp] theorem State.updPort_discard (s : State) (n : Link) (f : Port → Port) : (s.updPort n f).discard = s.discard := rfl
@[simp] theorem State.updPort_expired (s : State) (n : Link) (f : Port → Port) : (s.updPort n f).expired = s.expired := rfl
@[simp] theorem State.updPort_queues (s : State) (n : Link) (f : Port → Port) : (s.updPort n f).queues = s.queues := rfl
@[simp] theorem State.updPort_flushed (s : State) (n : Link) (f : Port → Port) : (s.updPort n f).flushed = s.flushed := rfl
@[simp] theorem State.updPort_probes (s : State) (n : Link) (f : Port → Port) : (s.updPort n f).probes = s.probes := rfl
@[simp] theorem State.updPort_pointer (s : State) (n : Link) (f : Port → Port) : (s.updPort n f).pointer = s.pointer := rfl
@[simp] theorem State.updPort_bpc (s : State) (n : Link) (f : Port → Port) : (s.updPort n f).bpc = s.bpc := rfl
@[simp] theorem State.updPort_timeoutSel (s : State) (n : Link) (f : Port → Port) : (s.updPort n f).timeoutSel = s.timeoutSel := rfl
@[simp] theorem State.updPort_bus (s : State) (n : Link) (f : Port → Port) : (s.updPort n f).bus = s.bus := rfl
@[simp] theorem State.updPort_slots (s : State) (n : Link) (f : Port → Port) : (s.updPort n f).slots = s.slots := rfl
@[simp] theorem State.updPort_faultLimit (s : State) (n : Link) (f : Port → Port) : (s.updPort n f).faultLimit = s.faultLimit := rfl
@[simp] theorem State.updPort_kinds (s : State) (n : Link) (f : Port → Port) : (s.updPort n f).kinds = s.kinds := rfl
@[simp] theorem State.updPort_lease (s : State) (n : Link) (f : Port → Port) : (s.updPort n f).lease = s.lease := rfl
@[simp] theorem State.updPort_free (s : State) (n : Link) (f : Port → Port) : (s.updPort n f).free = s.free := rfl
@[simp] theorem State.updPort_pending (s : State) (n : Link) (f : Port → Port) : (s.updPort n f).pending = s.pending := rfl

@[simp] theorem State.updAdm_now (s : State) (n : Link) (f : AdmCounters → AdmCounters) : (s.updAdm n f).now = s.now := rfl
@[simp] theorem State.updAdm_resetPin (s : State) (n : Link) (f : AdmCounters → AdmCounters) : (s.updAdm n f).resetPin = s.resetPin := rfl
@[simp] theorem State.updAdm_losPin (s : State) (n : Link) (f : AdmCounters → AdmCounters) : (s.updAdm n f).losPin = s.losPin := rfl
@[simp] theorem State.updAdm_alertPin (s : State) (n : Link) (f : AdmCounters → AdmCounters) : (s.updAdm n f).alertPin = s.alertPin := rfl
@[simp] theorem State.updAdm_ports (s : State) (n : Link) (f : AdmCounters → AdmCounters) : (s.updAdm n f).ports = s.ports := rfl
@[simp] theorem State.updAdm_active (s : State) (n : Link) (f : AdmCounters → AdmCounters) : (s.updAdm n f).active = s.active := rfl
@[simp] theorem State.updAdm_staging (s : State) (n : Link) (f : AdmCounters → AdmCounters) : (s.updAdm n f).staging = s.staging := rfl
@[simp] theorem State.updAdm_locks (s : State) (n : Link) (f : AdmCounters → AdmCounters) : (s.updAdm n f).locks = s.locks := rfl
@[simp] theorem State.updAdm_tickets (s : State) (n : Link) (f : AdmCounters → AdmCounters) : (s.updAdm n f).tickets = s.tickets := rfl
@[simp] theorem State.updAdm_quota (s : State) (n : Link) (f : AdmCounters → AdmCounters) : (s.updAdm n f).quota = s.quota := rfl
@[simp] theorem State.updAdm_discard (s : State) (n : Link) (f : AdmCounters → AdmCounters) : (s.updAdm n f).discard = s.discard := rfl
@[simp] theorem State.updAdm_expired (s : State) (n : Link) (f : AdmCounters → AdmCounters) : (s.updAdm n f).expired = s.expired := rfl
@[simp] theorem State.updAdm_queues (s : State) (n : Link) (f : AdmCounters → AdmCounters) : (s.updAdm n f).queues = s.queues := rfl
@[simp] theorem State.updAdm_flushed (s : State) (n : Link) (f : AdmCounters → AdmCounters) : (s.updAdm n f).flushed = s.flushed := rfl
@[simp] theorem State.updAdm_probes (s : State) (n : Link) (f : AdmCounters → AdmCounters) : (s.updAdm n f).probes = s.probes := rfl
@[simp] theorem State.updAdm_pointer (s : State) (n : Link) (f : AdmCounters → AdmCounters) : (s.updAdm n f).pointer = s.pointer := rfl
@[simp] theorem State.updAdm_bpc (s : State) (n : Link) (f : AdmCounters → AdmCounters) : (s.updAdm n f).bpc = s.bpc := rfl
@[simp] theorem State.updAdm_timeoutSel (s : State) (n : Link) (f : AdmCounters → AdmCounters) : (s.updAdm n f).timeoutSel = s.timeoutSel := rfl
@[simp] theorem State.updAdm_bus (s : State) (n : Link) (f : AdmCounters → AdmCounters) : (s.updAdm n f).bus = s.bus := rfl
@[simp] theorem State.updAdm_slots (s : State) (n : Link) (f : AdmCounters → AdmCounters) : (s.updAdm n f).slots = s.slots := rfl
@[simp] theorem State.updAdm_faultLimit (s : State) (n : Link) (f : AdmCounters → AdmCounters) : (s.updAdm n f).faultLimit = s.faultLimit := rfl
@[simp] theorem State.updAdm_kinds (s : State) (n : Link) (f : AdmCounters → AdmCounters) : (s.updAdm n f).kinds = s.kinds := rfl
@[simp] theorem State.updAdm_lease (s : State) (n : Link) (f : AdmCounters → AdmCounters) : (s.updAdm n f).lease = s.lease := rfl
@[simp] theorem State.updAdm_free (s : State) (n : Link) (f : AdmCounters → AdmCounters) : (s.updAdm n f).free = s.free := rfl
@[simp] theorem State.updAdm_pending (s : State) (n : Link) (f : AdmCounters → AdmCounters) : (s.updAdm n f).pending = s.pending := rfl

@[simp] theorem State.updFlushed_now (s : State) (n : Link) (f : Counter → Counter) : (s.updFlushed n f).now = s.now := rfl
@[simp] theorem State.updFlushed_resetPin (s : State) (n : Link) (f : Counter → Counter) : (s.updFlushed n f).resetPin = s.resetPin := rfl
@[simp] theorem State.updFlushed_losPin (s : State) (n : Link) (f : Counter → Counter) : (s.updFlushed n f).losPin = s.losPin := rfl
@[simp] theorem State.updFlushed_alertPin (s : State) (n : Link) (f : Counter → Counter) : (s.updFlushed n f).alertPin = s.alertPin := rfl
@[simp] theorem State.updFlushed_ports (s : State) (n : Link) (f : Counter → Counter) : (s.updFlushed n f).ports = s.ports := rfl
@[simp] theorem State.updFlushed_adm (s : State) (n : Link) (f : Counter → Counter) : (s.updFlushed n f).adm = s.adm := rfl
@[simp] theorem State.updFlushed_active (s : State) (n : Link) (f : Counter → Counter) : (s.updFlushed n f).active = s.active := rfl
@[simp] theorem State.updFlushed_staging (s : State) (n : Link) (f : Counter → Counter) : (s.updFlushed n f).staging = s.staging := rfl
@[simp] theorem State.updFlushed_locks (s : State) (n : Link) (f : Counter → Counter) : (s.updFlushed n f).locks = s.locks := rfl
@[simp] theorem State.updFlushed_tickets (s : State) (n : Link) (f : Counter → Counter) : (s.updFlushed n f).tickets = s.tickets := rfl
@[simp] theorem State.updFlushed_quota (s : State) (n : Link) (f : Counter → Counter) : (s.updFlushed n f).quota = s.quota := rfl
@[simp] theorem State.updFlushed_discard (s : State) (n : Link) (f : Counter → Counter) : (s.updFlushed n f).discard = s.discard := rfl
@[simp] theorem State.updFlushed_expired (s : State) (n : Link) (f : Counter → Counter) : (s.updFlushed n f).expired = s.expired := rfl
@[simp] theorem State.updFlushed_queues (s : State) (n : Link) (f : Counter → Counter) : (s.updFlushed n f).queues = s.queues := rfl
@[simp] theorem State.updFlushed_probes (s : State) (n : Link) (f : Counter → Counter) : (s.updFlushed n f).probes = s.probes := rfl
@[simp] theorem State.updFlushed_pointer (s : State) (n : Link) (f : Counter → Counter) : (s.updFlushed n f).pointer = s.pointer := rfl
@[simp] theorem State.updFlushed_bpc (s : State) (n : Link) (f : Counter → Counter) : (s.updFlushed n f).bpc = s.bpc := rfl
@[simp] theorem State.updFlushed_timeoutSel (s : State) (n : Link) (f : Counter → Counter) : (s.updFlushed n f).timeoutSel = s.timeoutSel := rfl
@[simp] theorem State.updFlushed_bus (s : State) (n : Link) (f : Counter → Counter) : (s.updFlushed n f).bus = s.bus := rfl
@[simp] theorem State.updFlushed_slots (s : State) (n : Link) (f : Counter → Counter) : (s.updFlushed n f).slots = s.slots := rfl
@[simp] theorem State.updFlushed_faultLimit (s : State) (n : Link) (f : Counter → Counter) : (s.updFlushed n f).faultLimit = s.faultLimit := rfl
@[simp] theorem State.updFlushed_kinds (s : State) (n : Link) (f : Counter → Counter) : (s.updFlushed n f).kinds = s.kinds := rfl
@[simp] theorem State.updFlushed_lease (s : State) (n : Link) (f : Counter → Counter) : (s.updFlushed n f).lease = s.lease := rfl
@[simp] theorem State.updFlushed_free (s : State) (n : Link) (f : Counter → Counter) : (s.updFlushed n f).free = s.free := rfl
@[simp] theorem State.updFlushed_pending (s : State) (n : Link) (f : Counter → Counter) : (s.updFlushed n f).pending = s.pending := rfl

@[simp] theorem State.setQueue_now (s : State) (n : Link) (es : List WorkEntry) : (s.setQueue n es).now = s.now := rfl
@[simp] theorem State.setQueue_resetPin (s : State) (n : Link) (es : List WorkEntry) : (s.setQueue n es).resetPin = s.resetPin := rfl
@[simp] theorem State.setQueue_losPin (s : State) (n : Link) (es : List WorkEntry) : (s.setQueue n es).losPin = s.losPin := rfl
@[simp] theorem State.setQueue_alertPin (s : State) (n : Link) (es : List WorkEntry) : (s.setQueue n es).alertPin = s.alertPin := rfl
@[simp] theorem State.setQueue_ports (s : State) (n : Link) (es : List WorkEntry) : (s.setQueue n es).ports = s.ports := rfl
@[simp] theorem State.setQueue_adm (s : State) (n : Link) (es : List WorkEntry) : (s.setQueue n es).adm = s.adm := rfl
@[simp] theorem State.setQueue_active (s : State) (n : Link) (es : List WorkEntry) : (s.setQueue n es).active = s.active := rfl
@[simp] theorem State.setQueue_staging (s : State) (n : Link) (es : List WorkEntry) : (s.setQueue n es).staging = s.staging := rfl
@[simp] theorem State.setQueue_locks (s : State) (n : Link) (es : List WorkEntry) : (s.setQueue n es).locks = s.locks := rfl
@[simp] theorem State.setQueue_tickets (s : State) (n : Link) (es : List WorkEntry) : (s.setQueue n es).tickets = s.tickets := rfl
@[simp] theorem State.setQueue_quota (s : State) (n : Link) (es : List WorkEntry) : (s.setQueue n es).quota = s.quota := rfl
@[simp] theorem State.setQueue_discard (s : State) (n : Link) (es : List WorkEntry) : (s.setQueue n es).discard = s.discard := rfl
@[simp] theorem State.setQueue_expired (s : State) (n : Link) (es : List WorkEntry) : (s.setQueue n es).expired = s.expired := rfl
@[simp] theorem State.setQueue_flushed (s : State) (n : Link) (es : List WorkEntry) : (s.setQueue n es).flushed = s.flushed := rfl
@[simp] theorem State.setQueue_probes (s : State) (n : Link) (es : List WorkEntry) : (s.setQueue n es).probes = s.probes := rfl
@[simp] theorem State.setQueue_pointer (s : State) (n : Link) (es : List WorkEntry) : (s.setQueue n es).pointer = s.pointer := rfl
@[simp] theorem State.setQueue_bpc (s : State) (n : Link) (es : List WorkEntry) : (s.setQueue n es).bpc = s.bpc := rfl
@[simp] theorem State.setQueue_timeoutSel (s : State) (n : Link) (es : List WorkEntry) : (s.setQueue n es).timeoutSel = s.timeoutSel := rfl
@[simp] theorem State.setQueue_bus (s : State) (n : Link) (es : List WorkEntry) : (s.setQueue n es).bus = s.bus := rfl
@[simp] theorem State.setQueue_slots (s : State) (n : Link) (es : List WorkEntry) : (s.setQueue n es).slots = s.slots := rfl
@[simp] theorem State.setQueue_faultLimit (s : State) (n : Link) (es : List WorkEntry) : (s.setQueue n es).faultLimit = s.faultLimit := rfl
@[simp] theorem State.setQueue_kinds (s : State) (n : Link) (es : List WorkEntry) : (s.setQueue n es).kinds = s.kinds := rfl
@[simp] theorem State.setQueue_lease (s : State) (n : Link) (es : List WorkEntry) : (s.setQueue n es).lease = s.lease := rfl
@[simp] theorem State.setQueue_free (s : State) (n : Link) (es : List WorkEntry) : (s.setQueue n es).free = s.free := rfl
@[simp] theorem State.setQueue_pending (s : State) (n : Link) (es : List WorkEntry) : (s.setQueue n es).pending = s.pending := rfl

@[simp] theorem State.updTicket_now (s : State) (t : Fin 24) (f : Ticket → Ticket) : (s.updTicket t f).now = s.now := rfl
@[simp] theorem State.updTicket_resetPin (s : State) (t : Fin 24) (f : Ticket → Ticket) : (s.updTicket t f).resetPin = s.resetPin := rfl
@[simp] theorem State.updTicket_losPin (s : State) (t : Fin 24) (f : Ticket → Ticket) : (s.updTicket t f).losPin = s.losPin := rfl
@[simp] theorem State.updTicket_alertPin (s : State) (t : Fin 24) (f : Ticket → Ticket) : (s.updTicket t f).alertPin = s.alertPin := rfl
@[simp] theorem State.updTicket_ports (s : State) (t : Fin 24) (f : Ticket → Ticket) : (s.updTicket t f).ports = s.ports := rfl
@[simp] theorem State.updTicket_adm (s : State) (t : Fin 24) (f : Ticket → Ticket) : (s.updTicket t f).adm = s.adm := rfl
@[simp] theorem State.updTicket_active (s : State) (t : Fin 24) (f : Ticket → Ticket) : (s.updTicket t f).active = s.active := rfl
@[simp] theorem State.updTicket_staging (s : State) (t : Fin 24) (f : Ticket → Ticket) : (s.updTicket t f).staging = s.staging := rfl
@[simp] theorem State.updTicket_locks (s : State) (t : Fin 24) (f : Ticket → Ticket) : (s.updTicket t f).locks = s.locks := rfl
@[simp] theorem State.updTicket_quota (s : State) (t : Fin 24) (f : Ticket → Ticket) : (s.updTicket t f).quota = s.quota := rfl
@[simp] theorem State.updTicket_discard (s : State) (t : Fin 24) (f : Ticket → Ticket) : (s.updTicket t f).discard = s.discard := rfl
@[simp] theorem State.updTicket_expired (s : State) (t : Fin 24) (f : Ticket → Ticket) : (s.updTicket t f).expired = s.expired := rfl
@[simp] theorem State.updTicket_queues (s : State) (t : Fin 24) (f : Ticket → Ticket) : (s.updTicket t f).queues = s.queues := rfl
@[simp] theorem State.updTicket_flushed (s : State) (t : Fin 24) (f : Ticket → Ticket) : (s.updTicket t f).flushed = s.flushed := rfl
@[simp] theorem State.updTicket_probes (s : State) (t : Fin 24) (f : Ticket → Ticket) : (s.updTicket t f).probes = s.probes := rfl
@[simp] theorem State.updTicket_pointer (s : State) (t : Fin 24) (f : Ticket → Ticket) : (s.updTicket t f).pointer = s.pointer := rfl
@[simp] theorem State.updTicket_bpc (s : State) (t : Fin 24) (f : Ticket → Ticket) : (s.updTicket t f).bpc = s.bpc := rfl
@[simp] theorem State.updTicket_timeoutSel (s : State) (t : Fin 24) (f : Ticket → Ticket) : (s.updTicket t f).timeoutSel = s.timeoutSel := rfl
@[simp] theorem State.updTicket_bus (s : State) (t : Fin 24) (f : Ticket → Ticket) : (s.updTicket t f).bus = s.bus := rfl
@[simp] theorem State.updTicket_slots (s : State) (t : Fin 24) (f : Ticket → Ticket) : (s.updTicket t f).slots = s.slots := rfl
@[simp] theorem State.updTicket_faultLimit (s : State) (t : Fin 24) (f : Ticket → Ticket) : (s.updTicket t f).faultLimit = s.faultLimit := rfl
@[simp] theorem State.updTicket_kinds (s : State) (t : Fin 24) (f : Ticket → Ticket) : (s.updTicket t f).kinds = s.kinds := rfl
@[simp] theorem State.updTicket_lease (s : State) (t : Fin 24) (f : Ticket → Ticket) : (s.updTicket t f).lease = s.lease := rfl
@[simp] theorem State.updTicket_free (s : State) (t : Fin 24) (f : Ticket → Ticket) : (s.updTicket t f).free = s.free := rfl
@[simp] theorem State.updTicket_pending (s : State) (t : Fin 24) (f : Ticket → Ticket) : (s.updTicket t f).pending = s.pending := rfl

@[simp] theorem State.updSlot_now (s : State) (i : Fin 16) (f : Slot → Slot) : (s.updSlot i f).now = s.now := rfl
@[simp] theorem State.updSlot_resetPin (s : State) (i : Fin 16) (f : Slot → Slot) : (s.updSlot i f).resetPin = s.resetPin := rfl
@[simp] theorem State.updSlot_losPin (s : State) (i : Fin 16) (f : Slot → Slot) : (s.updSlot i f).losPin = s.losPin := rfl
@[simp] theorem State.updSlot_alertPin (s : State) (i : Fin 16) (f : Slot → Slot) : (s.updSlot i f).alertPin = s.alertPin := rfl
@[simp] theorem State.updSlot_ports (s : State) (i : Fin 16) (f : Slot → Slot) : (s.updSlot i f).ports = s.ports := rfl
@[simp] theorem State.updSlot_adm (s : State) (i : Fin 16) (f : Slot → Slot) : (s.updSlot i f).adm = s.adm := rfl
@[simp] theorem State.updSlot_active (s : State) (i : Fin 16) (f : Slot → Slot) : (s.updSlot i f).active = s.active := rfl
@[simp] theorem State.updSlot_staging (s : State) (i : Fin 16) (f : Slot → Slot) : (s.updSlot i f).staging = s.staging := rfl
@[simp] theorem State.updSlot_locks (s : State) (i : Fin 16) (f : Slot → Slot) : (s.updSlot i f).locks = s.locks := rfl
@[simp] theorem State.updSlot_tickets (s : State) (i : Fin 16) (f : Slot → Slot) : (s.updSlot i f).tickets = s.tickets := rfl
@[simp] theorem State.updSlot_quota (s : State) (i : Fin 16) (f : Slot → Slot) : (s.updSlot i f).quota = s.quota := rfl
@[simp] theorem State.updSlot_discard (s : State) (i : Fin 16) (f : Slot → Slot) : (s.updSlot i f).discard = s.discard := rfl
@[simp] theorem State.updSlot_expired (s : State) (i : Fin 16) (f : Slot → Slot) : (s.updSlot i f).expired = s.expired := rfl
@[simp] theorem State.updSlot_queues (s : State) (i : Fin 16) (f : Slot → Slot) : (s.updSlot i f).queues = s.queues := rfl
@[simp] theorem State.updSlot_flushed (s : State) (i : Fin 16) (f : Slot → Slot) : (s.updSlot i f).flushed = s.flushed := rfl
@[simp] theorem State.updSlot_probes (s : State) (i : Fin 16) (f : Slot → Slot) : (s.updSlot i f).probes = s.probes := rfl
@[simp] theorem State.updSlot_pointer (s : State) (i : Fin 16) (f : Slot → Slot) : (s.updSlot i f).pointer = s.pointer := rfl
@[simp] theorem State.updSlot_bpc (s : State) (i : Fin 16) (f : Slot → Slot) : (s.updSlot i f).bpc = s.bpc := rfl
@[simp] theorem State.updSlot_timeoutSel (s : State) (i : Fin 16) (f : Slot → Slot) : (s.updSlot i f).timeoutSel = s.timeoutSel := rfl
@[simp] theorem State.updSlot_bus (s : State) (i : Fin 16) (f : Slot → Slot) : (s.updSlot i f).bus = s.bus := rfl
@[simp] theorem State.updSlot_faultLimit (s : State) (i : Fin 16) (f : Slot → Slot) : (s.updSlot i f).faultLimit = s.faultLimit := rfl
@[simp] theorem State.updSlot_kinds (s : State) (i : Fin 16) (f : Slot → Slot) : (s.updSlot i f).kinds = s.kinds := rfl
@[simp] theorem State.updSlot_lease (s : State) (i : Fin 16) (f : Slot → Slot) : (s.updSlot i f).lease = s.lease := rfl
@[simp] theorem State.updSlot_free (s : State) (i : Fin 16) (f : Slot → Slot) : (s.updSlot i f).free = s.free := rfl
@[simp] theorem State.updSlot_pending (s : State) (i : Fin 16) (f : Slot → Slot) : (s.updSlot i f).pending = s.pending := rfl

@[simp] theorem State.updKind_now (s : State) (k : NoticeKind) (f : KindRecord → KindRecord) : (s.updKind k f).now = s.now := rfl
@[simp] theorem State.updKind_resetPin (s : State) (k : NoticeKind) (f : KindRecord → KindRecord) : (s.updKind k f).resetPin = s.resetPin := rfl
@[simp] theorem State.updKind_losPin (s : State) (k : NoticeKind) (f : KindRecord → KindRecord) : (s.updKind k f).losPin = s.losPin := rfl
@[simp] theorem State.updKind_alertPin (s : State) (k : NoticeKind) (f : KindRecord → KindRecord) : (s.updKind k f).alertPin = s.alertPin := rfl
@[simp] theorem State.updKind_ports (s : State) (k : NoticeKind) (f : KindRecord → KindRecord) : (s.updKind k f).ports = s.ports := rfl
@[simp] theorem State.updKind_adm (s : State) (k : NoticeKind) (f : KindRecord → KindRecord) : (s.updKind k f).adm = s.adm := rfl
@[simp] theorem State.updKind_active (s : State) (k : NoticeKind) (f : KindRecord → KindRecord) : (s.updKind k f).active = s.active := rfl
@[simp] theorem State.updKind_staging (s : State) (k : NoticeKind) (f : KindRecord → KindRecord) : (s.updKind k f).staging = s.staging := rfl
@[simp] theorem State.updKind_locks (s : State) (k : NoticeKind) (f : KindRecord → KindRecord) : (s.updKind k f).locks = s.locks := rfl
@[simp] theorem State.updKind_tickets (s : State) (k : NoticeKind) (f : KindRecord → KindRecord) : (s.updKind k f).tickets = s.tickets := rfl
@[simp] theorem State.updKind_quota (s : State) (k : NoticeKind) (f : KindRecord → KindRecord) : (s.updKind k f).quota = s.quota := rfl
@[simp] theorem State.updKind_discard (s : State) (k : NoticeKind) (f : KindRecord → KindRecord) : (s.updKind k f).discard = s.discard := rfl
@[simp] theorem State.updKind_expired (s : State) (k : NoticeKind) (f : KindRecord → KindRecord) : (s.updKind k f).expired = s.expired := rfl
@[simp] theorem State.updKind_queues (s : State) (k : NoticeKind) (f : KindRecord → KindRecord) : (s.updKind k f).queues = s.queues := rfl
@[simp] theorem State.updKind_flushed (s : State) (k : NoticeKind) (f : KindRecord → KindRecord) : (s.updKind k f).flushed = s.flushed := rfl
@[simp] theorem State.updKind_probes (s : State) (k : NoticeKind) (f : KindRecord → KindRecord) : (s.updKind k f).probes = s.probes := rfl
@[simp] theorem State.updKind_pointer (s : State) (k : NoticeKind) (f : KindRecord → KindRecord) : (s.updKind k f).pointer = s.pointer := rfl
@[simp] theorem State.updKind_bpc (s : State) (k : NoticeKind) (f : KindRecord → KindRecord) : (s.updKind k f).bpc = s.bpc := rfl
@[simp] theorem State.updKind_timeoutSel (s : State) (k : NoticeKind) (f : KindRecord → KindRecord) : (s.updKind k f).timeoutSel = s.timeoutSel := rfl
@[simp] theorem State.updKind_bus (s : State) (k : NoticeKind) (f : KindRecord → KindRecord) : (s.updKind k f).bus = s.bus := rfl
@[simp] theorem State.updKind_slots (s : State) (k : NoticeKind) (f : KindRecord → KindRecord) : (s.updKind k f).slots = s.slots := rfl
@[simp] theorem State.updKind_faultLimit (s : State) (k : NoticeKind) (f : KindRecord → KindRecord) : (s.updKind k f).faultLimit = s.faultLimit := rfl
@[simp] theorem State.updKind_lease (s : State) (k : NoticeKind) (f : KindRecord → KindRecord) : (s.updKind k f).lease = s.lease := rfl
@[simp] theorem State.updKind_free (s : State) (k : NoticeKind) (f : KindRecord → KindRecord) : (s.updKind k f).free = s.free := rfl
@[simp] theorem State.updKind_pending (s : State) (k : NoticeKind) (f : KindRecord → KindRecord) : (s.updKind k f).pending = s.pending := rfl

@[simp] theorem State.toward_resetPin (s : State) (d : Nat) : (s.toward d).resetPin = s.resetPin := rfl
@[simp] theorem State.toward_losPin (s : State) (d : Nat) : (s.toward d).losPin = s.losPin := rfl
@[simp] theorem State.toward_alertPin (s : State) (d : Nat) : (s.toward d).alertPin = s.alertPin := rfl
@[simp] theorem State.toward_ports (s : State) (d : Nat) : (s.toward d).ports = s.ports := rfl
@[simp] theorem State.toward_adm (s : State) (d : Nat) : (s.toward d).adm = s.adm := rfl
@[simp] theorem State.toward_active (s : State) (d : Nat) : (s.toward d).active = s.active := rfl
@[simp] theorem State.toward_staging (s : State) (d : Nat) : (s.toward d).staging = s.staging := rfl
@[simp] theorem State.toward_locks (s : State) (d : Nat) : (s.toward d).locks = s.locks := rfl
@[simp] theorem State.toward_tickets (s : State) (d : Nat) : (s.toward d).tickets = s.tickets := rfl
@[simp] theorem State.toward_quota (s : State) (d : Nat) : (s.toward d).quota = s.quota := rfl
@[simp] theorem State.toward_discard (s : State) (d : Nat) : (s.toward d).discard = s.discard := rfl
@[simp] theorem State.toward_expired (s : State) (d : Nat) : (s.toward d).expired = s.expired := rfl
@[simp] theorem State.toward_queues (s : State) (d : Nat) : (s.toward d).queues = s.queues := rfl
@[simp] theorem State.toward_flushed (s : State) (d : Nat) : (s.toward d).flushed = s.flushed := rfl
@[simp] theorem State.toward_probes (s : State) (d : Nat) : (s.toward d).probes = s.probes := rfl
@[simp] theorem State.toward_pointer (s : State) (d : Nat) : (s.toward d).pointer = s.pointer := rfl
@[simp] theorem State.toward_bpc (s : State) (d : Nat) : (s.toward d).bpc = s.bpc := rfl
@[simp] theorem State.toward_timeoutSel (s : State) (d : Nat) : (s.toward d).timeoutSel = s.timeoutSel := rfl
@[simp] theorem State.toward_bus (s : State) (d : Nat) : (s.toward d).bus = s.bus := rfl
@[simp] theorem State.toward_slots (s : State) (d : Nat) : (s.toward d).slots = s.slots := rfl
@[simp] theorem State.toward_faultLimit (s : State) (d : Nat) : (s.toward d).faultLimit = s.faultLimit := rfl
@[simp] theorem State.toward_kinds (s : State) (d : Nat) : (s.toward d).kinds = s.kinds := rfl
@[simp] theorem State.toward_lease (s : State) (d : Nat) : (s.toward d).lease = s.lease := rfl
@[simp] theorem State.toward_free (s : State) (d : Nat) : (s.toward d).free = s.free := rfl
@[simp] theorem State.toward_pending (s : State) (d : Nat) : (s.toward d).pending = s.pending := rfl

@[simp] theorem State.form_now (s : State) (n : Link) (f : OutFrame) : (s.form n f).now = s.now := rfl
@[simp] theorem State.form_resetPin (s : State) (n : Link) (f : OutFrame) : (s.form n f).resetPin = s.resetPin := rfl
@[simp] theorem State.form_losPin (s : State) (n : Link) (f : OutFrame) : (s.form n f).losPin = s.losPin := rfl
@[simp] theorem State.form_alertPin (s : State) (n : Link) (f : OutFrame) : (s.form n f).alertPin = s.alertPin := rfl
@[simp] theorem State.form_adm (s : State) (n : Link) (f : OutFrame) : (s.form n f).adm = s.adm := rfl
@[simp] theorem State.form_active (s : State) (n : Link) (f : OutFrame) : (s.form n f).active = s.active := rfl
@[simp] theorem State.form_staging (s : State) (n : Link) (f : OutFrame) : (s.form n f).staging = s.staging := rfl
@[simp] theorem State.form_locks (s : State) (n : Link) (f : OutFrame) : (s.form n f).locks = s.locks := rfl
@[simp] theorem State.form_tickets (s : State) (n : Link) (f : OutFrame) : (s.form n f).tickets = s.tickets := rfl
@[simp] theorem State.form_quota (s : State) (n : Link) (f : OutFrame) : (s.form n f).quota = s.quota := rfl
@[simp] theorem State.form_discard (s : State) (n : Link) (f : OutFrame) : (s.form n f).discard = s.discard := rfl
@[simp] theorem State.form_expired (s : State) (n : Link) (f : OutFrame) : (s.form n f).expired = s.expired := rfl
@[simp] theorem State.form_queues (s : State) (n : Link) (f : OutFrame) : (s.form n f).queues = s.queues := rfl
@[simp] theorem State.form_flushed (s : State) (n : Link) (f : OutFrame) : (s.form n f).flushed = s.flushed := rfl
@[simp] theorem State.form_probes (s : State) (n : Link) (f : OutFrame) : (s.form n f).probes = s.probes := rfl
@[simp] theorem State.form_pointer (s : State) (n : Link) (f : OutFrame) : (s.form n f).pointer = s.pointer := rfl
@[simp] theorem State.form_bpc (s : State) (n : Link) (f : OutFrame) : (s.form n f).bpc = s.bpc := rfl
@[simp] theorem State.form_timeoutSel (s : State) (n : Link) (f : OutFrame) : (s.form n f).timeoutSel = s.timeoutSel := rfl
@[simp] theorem State.form_bus (s : State) (n : Link) (f : OutFrame) : (s.form n f).bus = s.bus := rfl
@[simp] theorem State.form_slots (s : State) (n : Link) (f : OutFrame) : (s.form n f).slots = s.slots := rfl
@[simp] theorem State.form_faultLimit (s : State) (n : Link) (f : OutFrame) : (s.form n f).faultLimit = s.faultLimit := rfl
@[simp] theorem State.form_kinds (s : State) (n : Link) (f : OutFrame) : (s.form n f).kinds = s.kinds := rfl
@[simp] theorem State.form_lease (s : State) (n : Link) (f : OutFrame) : (s.form n f).lease = s.lease := rfl
@[simp] theorem State.form_free (s : State) (n : Link) (f : OutFrame) : (s.form n f).free = s.free := rfl
@[simp] theorem State.form_pending (s : State) (n : Link) (f : OutFrame) : (s.form n f).pending = s.pending := rfl

@[simp] theorem State.report_now (s : State) (n : Link) (c : Nat) : (s.report n c).now = s.now := rfl
@[simp] theorem State.report_resetPin (s : State) (n : Link) (c : Nat) : (s.report n c).resetPin = s.resetPin := rfl
@[simp] theorem State.report_losPin (s : State) (n : Link) (c : Nat) : (s.report n c).losPin = s.losPin := rfl
@[simp] theorem State.report_alertPin (s : State) (n : Link) (c : Nat) : (s.report n c).alertPin = s.alertPin := rfl
@[simp] theorem State.report_adm (s : State) (n : Link) (c : Nat) : (s.report n c).adm = s.adm := rfl
@[simp] theorem State.report_active (s : State) (n : Link) (c : Nat) : (s.report n c).active = s.active := rfl
@[simp] theorem State.report_staging (s : State) (n : Link) (c : Nat) : (s.report n c).staging = s.staging := rfl
@[simp] theorem State.report_locks (s : State) (n : Link) (c : Nat) : (s.report n c).locks = s.locks := rfl
@[simp] theorem State.report_tickets (s : State) (n : Link) (c : Nat) : (s.report n c).tickets = s.tickets := rfl
@[simp] theorem State.report_quota (s : State) (n : Link) (c : Nat) : (s.report n c).quota = s.quota := rfl
@[simp] theorem State.report_discard (s : State) (n : Link) (c : Nat) : (s.report n c).discard = s.discard := rfl
@[simp] theorem State.report_expired (s : State) (n : Link) (c : Nat) : (s.report n c).expired = s.expired := rfl
@[simp] theorem State.report_queues (s : State) (n : Link) (c : Nat) : (s.report n c).queues = s.queues := rfl
@[simp] theorem State.report_flushed (s : State) (n : Link) (c : Nat) : (s.report n c).flushed = s.flushed := rfl
@[simp] theorem State.report_probes (s : State) (n : Link) (c : Nat) : (s.report n c).probes = s.probes := rfl
@[simp] theorem State.report_pointer (s : State) (n : Link) (c : Nat) : (s.report n c).pointer = s.pointer := rfl
@[simp] theorem State.report_bpc (s : State) (n : Link) (c : Nat) : (s.report n c).bpc = s.bpc := rfl
@[simp] theorem State.report_timeoutSel (s : State) (n : Link) (c : Nat) : (s.report n c).timeoutSel = s.timeoutSel := rfl
@[simp] theorem State.report_bus (s : State) (n : Link) (c : Nat) : (s.report n c).bus = s.bus := rfl
@[simp] theorem State.report_slots (s : State) (n : Link) (c : Nat) : (s.report n c).slots = s.slots := rfl
@[simp] theorem State.report_faultLimit (s : State) (n : Link) (c : Nat) : (s.report n c).faultLimit = s.faultLimit := rfl
@[simp] theorem State.report_kinds (s : State) (n : Link) (c : Nat) : (s.report n c).kinds = s.kinds := rfl
@[simp] theorem State.report_lease (s : State) (n : Link) (c : Nat) : (s.report n c).lease = s.lease := rfl
@[simp] theorem State.report_free (s : State) (n : Link) (c : Nat) : (s.report n c).free = s.free := rfl
@[simp] theorem State.report_pending (s : State) (n : Link) (c : Nat) : (s.report n c).pending = s.pending := rfl

@[simp] theorem State.freeTicket_now (s : State) (t : Fin 24) : (s.freeTicket t).now = s.now := rfl
@[simp] theorem State.freeTicket_resetPin (s : State) (t : Fin 24) : (s.freeTicket t).resetPin = s.resetPin := rfl
@[simp] theorem State.freeTicket_losPin (s : State) (t : Fin 24) : (s.freeTicket t).losPin = s.losPin := rfl
@[simp] theorem State.freeTicket_alertPin (s : State) (t : Fin 24) : (s.freeTicket t).alertPin = s.alertPin := rfl
@[simp] theorem State.freeTicket_ports (s : State) (t : Fin 24) : (s.freeTicket t).ports = s.ports := rfl
@[simp] theorem State.freeTicket_adm (s : State) (t : Fin 24) : (s.freeTicket t).adm = s.adm := rfl
@[simp] theorem State.freeTicket_active (s : State) (t : Fin 24) : (s.freeTicket t).active = s.active := rfl
@[simp] theorem State.freeTicket_staging (s : State) (t : Fin 24) : (s.freeTicket t).staging = s.staging := rfl
@[simp] theorem State.freeTicket_locks (s : State) (t : Fin 24) : (s.freeTicket t).locks = s.locks := rfl
@[simp] theorem State.freeTicket_quota (s : State) (t : Fin 24) : (s.freeTicket t).quota = s.quota := rfl
@[simp] theorem State.freeTicket_discard (s : State) (t : Fin 24) : (s.freeTicket t).discard = s.discard := rfl
@[simp] theorem State.freeTicket_expired (s : State) (t : Fin 24) : (s.freeTicket t).expired = s.expired := rfl
@[simp] theorem State.freeTicket_queues (s : State) (t : Fin 24) : (s.freeTicket t).queues = s.queues := rfl
@[simp] theorem State.freeTicket_flushed (s : State) (t : Fin 24) : (s.freeTicket t).flushed = s.flushed := rfl
@[simp] theorem State.freeTicket_probes (s : State) (t : Fin 24) : (s.freeTicket t).probes = s.probes := rfl
@[simp] theorem State.freeTicket_pointer (s : State) (t : Fin 24) : (s.freeTicket t).pointer = s.pointer := rfl
@[simp] theorem State.freeTicket_bpc (s : State) (t : Fin 24) : (s.freeTicket t).bpc = s.bpc := rfl
@[simp] theorem State.freeTicket_timeoutSel (s : State) (t : Fin 24) : (s.freeTicket t).timeoutSel = s.timeoutSel := rfl
@[simp] theorem State.freeTicket_bus (s : State) (t : Fin 24) : (s.freeTicket t).bus = s.bus := rfl
@[simp] theorem State.freeTicket_slots (s : State) (t : Fin 24) : (s.freeTicket t).slots = s.slots := rfl
@[simp] theorem State.freeTicket_faultLimit (s : State) (t : Fin 24) : (s.freeTicket t).faultLimit = s.faultLimit := rfl
@[simp] theorem State.freeTicket_kinds (s : State) (t : Fin 24) : (s.freeTicket t).kinds = s.kinds := rfl
@[simp] theorem State.freeTicket_lease (s : State) (t : Fin 24) : (s.freeTicket t).lease = s.lease := rfl
@[simp] theorem State.freeTicket_free (s : State) (t : Fin 24) : (s.freeTicket t).free = s.free := rfl
@[simp] theorem State.freeTicket_pending (s : State) (t : Fin 24) : (s.freeTicket t).pending = s.pending := rfl

@[simp] theorem State.setTicketState_now (s : State) (t : Fin 24) (st : TicketState) : (s.setTicketState t st).now = s.now := rfl
@[simp] theorem State.setTicketState_resetPin (s : State) (t : Fin 24) (st : TicketState) : (s.setTicketState t st).resetPin = s.resetPin := rfl
@[simp] theorem State.setTicketState_losPin (s : State) (t : Fin 24) (st : TicketState) : (s.setTicketState t st).losPin = s.losPin := rfl
@[simp] theorem State.setTicketState_alertPin (s : State) (t : Fin 24) (st : TicketState) : (s.setTicketState t st).alertPin = s.alertPin := rfl
@[simp] theorem State.setTicketState_ports (s : State) (t : Fin 24) (st : TicketState) : (s.setTicketState t st).ports = s.ports := rfl
@[simp] theorem State.setTicketState_adm (s : State) (t : Fin 24) (st : TicketState) : (s.setTicketState t st).adm = s.adm := rfl
@[simp] theorem State.setTicketState_active (s : State) (t : Fin 24) (st : TicketState) : (s.setTicketState t st).active = s.active := rfl
@[simp] theorem State.setTicketState_staging (s : State) (t : Fin 24) (st : TicketState) : (s.setTicketState t st).staging = s.staging := rfl
@[simp] theorem State.setTicketState_locks (s : State) (t : Fin 24) (st : TicketState) : (s.setTicketState t st).locks = s.locks := rfl
@[simp] theorem State.setTicketState_quota (s : State) (t : Fin 24) (st : TicketState) : (s.setTicketState t st).quota = s.quota := rfl
@[simp] theorem State.setTicketState_discard (s : State) (t : Fin 24) (st : TicketState) : (s.setTicketState t st).discard = s.discard := rfl
@[simp] theorem State.setTicketState_expired (s : State) (t : Fin 24) (st : TicketState) : (s.setTicketState t st).expired = s.expired := rfl
@[simp] theorem State.setTicketState_queues (s : State) (t : Fin 24) (st : TicketState) : (s.setTicketState t st).queues = s.queues := rfl
@[simp] theorem State.setTicketState_flushed (s : State) (t : Fin 24) (st : TicketState) : (s.setTicketState t st).flushed = s.flushed := rfl
@[simp] theorem State.setTicketState_probes (s : State) (t : Fin 24) (st : TicketState) : (s.setTicketState t st).probes = s.probes := rfl
@[simp] theorem State.setTicketState_pointer (s : State) (t : Fin 24) (st : TicketState) : (s.setTicketState t st).pointer = s.pointer := rfl
@[simp] theorem State.setTicketState_bpc (s : State) (t : Fin 24) (st : TicketState) : (s.setTicketState t st).bpc = s.bpc := rfl
@[simp] theorem State.setTicketState_timeoutSel (s : State) (t : Fin 24) (st : TicketState) : (s.setTicketState t st).timeoutSel = s.timeoutSel := rfl
@[simp] theorem State.setTicketState_bus (s : State) (t : Fin 24) (st : TicketState) : (s.setTicketState t st).bus = s.bus := rfl
@[simp] theorem State.setTicketState_slots (s : State) (t : Fin 24) (st : TicketState) : (s.setTicketState t st).slots = s.slots := rfl
@[simp] theorem State.setTicketState_faultLimit (s : State) (t : Fin 24) (st : TicketState) : (s.setTicketState t st).faultLimit = s.faultLimit := rfl
@[simp] theorem State.setTicketState_kinds (s : State) (t : Fin 24) (st : TicketState) : (s.setTicketState t st).kinds = s.kinds := rfl
@[simp] theorem State.setTicketState_lease (s : State) (t : Fin 24) (st : TicketState) : (s.setTicketState t st).lease = s.lease := rfl
@[simp] theorem State.setTicketState_free (s : State) (t : Fin 24) (st : TicketState) : (s.setTicketState t st).free = s.free := rfl
@[simp] theorem State.setTicketState_pending (s : State) (t : Fin 24) (st : TicketState) : (s.setTicketState t st).pending = s.pending := rfl

@[simp] theorem State.dropEntry_now (s : State) (n : Link) (t : Fin 24) : (s.dropEntry n t).now = s.now := rfl
@[simp] theorem State.dropEntry_resetPin (s : State) (n : Link) (t : Fin 24) : (s.dropEntry n t).resetPin = s.resetPin := rfl
@[simp] theorem State.dropEntry_losPin (s : State) (n : Link) (t : Fin 24) : (s.dropEntry n t).losPin = s.losPin := rfl
@[simp] theorem State.dropEntry_alertPin (s : State) (n : Link) (t : Fin 24) : (s.dropEntry n t).alertPin = s.alertPin := rfl
@[simp] theorem State.dropEntry_ports (s : State) (n : Link) (t : Fin 24) : (s.dropEntry n t).ports = s.ports := rfl
@[simp] theorem State.dropEntry_adm (s : State) (n : Link) (t : Fin 24) : (s.dropEntry n t).adm = s.adm := rfl
@[simp] theorem State.dropEntry_active (s : State) (n : Link) (t : Fin 24) : (s.dropEntry n t).active = s.active := rfl
@[simp] theorem State.dropEntry_staging (s : State) (n : Link) (t : Fin 24) : (s.dropEntry n t).staging = s.staging := rfl
@[simp] theorem State.dropEntry_locks (s : State) (n : Link) (t : Fin 24) : (s.dropEntry n t).locks = s.locks := rfl
@[simp] theorem State.dropEntry_tickets (s : State) (n : Link) (t : Fin 24) : (s.dropEntry n t).tickets = s.tickets := rfl
@[simp] theorem State.dropEntry_quota (s : State) (n : Link) (t : Fin 24) : (s.dropEntry n t).quota = s.quota := rfl
@[simp] theorem State.dropEntry_discard (s : State) (n : Link) (t : Fin 24) : (s.dropEntry n t).discard = s.discard := rfl
@[simp] theorem State.dropEntry_expired (s : State) (n : Link) (t : Fin 24) : (s.dropEntry n t).expired = s.expired := rfl
@[simp] theorem State.dropEntry_flushed (s : State) (n : Link) (t : Fin 24) : (s.dropEntry n t).flushed = s.flushed := rfl
@[simp] theorem State.dropEntry_probes (s : State) (n : Link) (t : Fin 24) : (s.dropEntry n t).probes = s.probes := rfl
@[simp] theorem State.dropEntry_pointer (s : State) (n : Link) (t : Fin 24) : (s.dropEntry n t).pointer = s.pointer := rfl
@[simp] theorem State.dropEntry_bpc (s : State) (n : Link) (t : Fin 24) : (s.dropEntry n t).bpc = s.bpc := rfl
@[simp] theorem State.dropEntry_timeoutSel (s : State) (n : Link) (t : Fin 24) : (s.dropEntry n t).timeoutSel = s.timeoutSel := rfl
@[simp] theorem State.dropEntry_bus (s : State) (n : Link) (t : Fin 24) : (s.dropEntry n t).bus = s.bus := rfl
@[simp] theorem State.dropEntry_slots (s : State) (n : Link) (t : Fin 24) : (s.dropEntry n t).slots = s.slots := rfl
@[simp] theorem State.dropEntry_faultLimit (s : State) (n : Link) (t : Fin 24) : (s.dropEntry n t).faultLimit = s.faultLimit := rfl
@[simp] theorem State.dropEntry_kinds (s : State) (n : Link) (t : Fin 24) : (s.dropEntry n t).kinds = s.kinds := rfl
@[simp] theorem State.dropEntry_lease (s : State) (n : Link) (t : Fin 24) : (s.dropEntry n t).lease = s.lease := rfl
@[simp] theorem State.dropEntry_free (s : State) (n : Link) (t : Fin 24) : (s.dropEntry n t).free = s.free := rfl
@[simp] theorem State.dropEntry_pending (s : State) (n : Link) (t : Fin 24) : (s.dropEntry n t).pending = s.pending := rfl

@[simp] theorem State.toIdle_now (s : State) : (s.toIdle).now = s.now := rfl
@[simp] theorem State.toIdle_resetPin (s : State) : (s.toIdle).resetPin = s.resetPin := rfl
@[simp] theorem State.toIdle_losPin (s : State) : (s.toIdle).losPin = s.losPin := rfl
@[simp] theorem State.toIdle_alertPin (s : State) : (s.toIdle).alertPin = s.alertPin := rfl
@[simp] theorem State.toIdle_ports (s : State) : (s.toIdle).ports = s.ports := rfl
@[simp] theorem State.toIdle_adm (s : State) : (s.toIdle).adm = s.adm := rfl
@[simp] theorem State.toIdle_active (s : State) : (s.toIdle).active = s.active := rfl
@[simp] theorem State.toIdle_staging (s : State) : (s.toIdle).staging = s.staging := rfl
@[simp] theorem State.toIdle_locks (s : State) : (s.toIdle).locks = s.locks := rfl
@[simp] theorem State.toIdle_tickets (s : State) : (s.toIdle).tickets = s.tickets := rfl
@[simp] theorem State.toIdle_quota (s : State) : (s.toIdle).quota = s.quota := rfl
@[simp] theorem State.toIdle_discard (s : State) : (s.toIdle).discard = s.discard := rfl
@[simp] theorem State.toIdle_expired (s : State) : (s.toIdle).expired = s.expired := rfl
@[simp] theorem State.toIdle_queues (s : State) : (s.toIdle).queues = s.queues := rfl
@[simp] theorem State.toIdle_flushed (s : State) : (s.toIdle).flushed = s.flushed := rfl
@[simp] theorem State.toIdle_probes (s : State) : (s.toIdle).probes = s.probes := rfl
@[simp] theorem State.toIdle_pointer (s : State) : (s.toIdle).pointer = s.pointer := rfl
@[simp] theorem State.toIdle_timeoutSel (s : State) : (s.toIdle).timeoutSel = s.timeoutSel := rfl
@[simp] theorem State.toIdle_slots (s : State) : (s.toIdle).slots = s.slots := rfl
@[simp] theorem State.toIdle_faultLimit (s : State) : (s.toIdle).faultLimit = s.faultLimit := rfl
@[simp] theorem State.toIdle_kinds (s : State) : (s.toIdle).kinds = s.kinds := rfl
@[simp] theorem State.toIdle_lease (s : State) : (s.toIdle).lease = s.lease := rfl
@[simp] theorem State.toIdle_free (s : State) : (s.toIdle).free = s.free := rfl
@[simp] theorem State.toIdle_pending (s : State) : (s.toIdle).pending = s.pending := rfl

@[simp] theorem State.startSelect_now (s : State) (op : Operation) : (s.startSelect op).now = s.now := rfl
@[simp] theorem State.startSelect_resetPin (s : State) (op : Operation) : (s.startSelect op).resetPin = s.resetPin := rfl
@[simp] theorem State.startSelect_losPin (s : State) (op : Operation) : (s.startSelect op).losPin = s.losPin := rfl
@[simp] theorem State.startSelect_alertPin (s : State) (op : Operation) : (s.startSelect op).alertPin = s.alertPin := rfl
@[simp] theorem State.startSelect_ports (s : State) (op : Operation) : (s.startSelect op).ports = s.ports := rfl
@[simp] theorem State.startSelect_adm (s : State) (op : Operation) : (s.startSelect op).adm = s.adm := rfl
@[simp] theorem State.startSelect_active (s : State) (op : Operation) : (s.startSelect op).active = s.active := rfl
@[simp] theorem State.startSelect_staging (s : State) (op : Operation) : (s.startSelect op).staging = s.staging := rfl
@[simp] theorem State.startSelect_locks (s : State) (op : Operation) : (s.startSelect op).locks = s.locks := rfl
@[simp] theorem State.startSelect_tickets (s : State) (op : Operation) : (s.startSelect op).tickets = s.tickets := rfl
@[simp] theorem State.startSelect_quota (s : State) (op : Operation) : (s.startSelect op).quota = s.quota := rfl
@[simp] theorem State.startSelect_discard (s : State) (op : Operation) : (s.startSelect op).discard = s.discard := rfl
@[simp] theorem State.startSelect_expired (s : State) (op : Operation) : (s.startSelect op).expired = s.expired := rfl
@[simp] theorem State.startSelect_queues (s : State) (op : Operation) : (s.startSelect op).queues = s.queues := rfl
@[simp] theorem State.startSelect_flushed (s : State) (op : Operation) : (s.startSelect op).flushed = s.flushed := rfl
@[simp] theorem State.startSelect_probes (s : State) (op : Operation) : (s.startSelect op).probes = s.probes := rfl
@[simp] theorem State.startSelect_pointer (s : State) (op : Operation) : (s.startSelect op).pointer = s.pointer := rfl
@[simp] theorem State.startSelect_timeoutSel (s : State) (op : Operation) : (s.startSelect op).timeoutSel = s.timeoutSel := rfl
@[simp] theorem State.startSelect_slots (s : State) (op : Operation) : (s.startSelect op).slots = s.slots := rfl
@[simp] theorem State.startSelect_faultLimit (s : State) (op : Operation) : (s.startSelect op).faultLimit = s.faultLimit := rfl
@[simp] theorem State.startSelect_kinds (s : State) (op : Operation) : (s.startSelect op).kinds = s.kinds := rfl
@[simp] theorem State.startSelect_lease (s : State) (op : Operation) : (s.startSelect op).lease = s.lease := rfl
@[simp] theorem State.startSelect_free (s : State) (op : Operation) : (s.startSelect op).free = s.free := rfl
@[simp] theorem State.startSelect_pending (s : State) (op : Operation) : (s.startSelect op).pending = s.pending := rfl

@[simp] theorem State.awaitBeat_now (s : State) (op : Operation) (row : Option ModAddr) (i : Nat) (d : List Byte) (c : Option Nat) : (s.awaitBeat op row i d c).now = s.now := rfl
@[simp] theorem State.awaitBeat_resetPin (s : State) (op : Operation) (row : Option ModAddr) (i : Nat) (d : List Byte) (c : Option Nat) : (s.awaitBeat op row i d c).resetPin = s.resetPin := rfl
@[simp] theorem State.awaitBeat_losPin (s : State) (op : Operation) (row : Option ModAddr) (i : Nat) (d : List Byte) (c : Option Nat) : (s.awaitBeat op row i d c).losPin = s.losPin := rfl
@[simp] theorem State.awaitBeat_alertPin (s : State) (op : Operation) (row : Option ModAddr) (i : Nat) (d : List Byte) (c : Option Nat) : (s.awaitBeat op row i d c).alertPin = s.alertPin := rfl
@[simp] theorem State.awaitBeat_ports (s : State) (op : Operation) (row : Option ModAddr) (i : Nat) (d : List Byte) (c : Option Nat) : (s.awaitBeat op row i d c).ports = s.ports := rfl
@[simp] theorem State.awaitBeat_adm (s : State) (op : Operation) (row : Option ModAddr) (i : Nat) (d : List Byte) (c : Option Nat) : (s.awaitBeat op row i d c).adm = s.adm := rfl
@[simp] theorem State.awaitBeat_active (s : State) (op : Operation) (row : Option ModAddr) (i : Nat) (d : List Byte) (c : Option Nat) : (s.awaitBeat op row i d c).active = s.active := rfl
@[simp] theorem State.awaitBeat_staging (s : State) (op : Operation) (row : Option ModAddr) (i : Nat) (d : List Byte) (c : Option Nat) : (s.awaitBeat op row i d c).staging = s.staging := rfl
@[simp] theorem State.awaitBeat_locks (s : State) (op : Operation) (row : Option ModAddr) (i : Nat) (d : List Byte) (c : Option Nat) : (s.awaitBeat op row i d c).locks = s.locks := rfl
@[simp] theorem State.awaitBeat_tickets (s : State) (op : Operation) (row : Option ModAddr) (i : Nat) (d : List Byte) (c : Option Nat) : (s.awaitBeat op row i d c).tickets = s.tickets := rfl
@[simp] theorem State.awaitBeat_quota (s : State) (op : Operation) (row : Option ModAddr) (i : Nat) (d : List Byte) (c : Option Nat) : (s.awaitBeat op row i d c).quota = s.quota := rfl
@[simp] theorem State.awaitBeat_discard (s : State) (op : Operation) (row : Option ModAddr) (i : Nat) (d : List Byte) (c : Option Nat) : (s.awaitBeat op row i d c).discard = s.discard := rfl
@[simp] theorem State.awaitBeat_expired (s : State) (op : Operation) (row : Option ModAddr) (i : Nat) (d : List Byte) (c : Option Nat) : (s.awaitBeat op row i d c).expired = s.expired := rfl
@[simp] theorem State.awaitBeat_queues (s : State) (op : Operation) (row : Option ModAddr) (i : Nat) (d : List Byte) (c : Option Nat) : (s.awaitBeat op row i d c).queues = s.queues := rfl
@[simp] theorem State.awaitBeat_flushed (s : State) (op : Operation) (row : Option ModAddr) (i : Nat) (d : List Byte) (c : Option Nat) : (s.awaitBeat op row i d c).flushed = s.flushed := rfl
@[simp] theorem State.awaitBeat_probes (s : State) (op : Operation) (row : Option ModAddr) (i : Nat) (d : List Byte) (c : Option Nat) : (s.awaitBeat op row i d c).probes = s.probes := rfl
@[simp] theorem State.awaitBeat_pointer (s : State) (op : Operation) (row : Option ModAddr) (i : Nat) (d : List Byte) (c : Option Nat) : (s.awaitBeat op row i d c).pointer = s.pointer := rfl
@[simp] theorem State.awaitBeat_timeoutSel (s : State) (op : Operation) (row : Option ModAddr) (i : Nat) (d : List Byte) (c : Option Nat) : (s.awaitBeat op row i d c).timeoutSel = s.timeoutSel := rfl
@[simp] theorem State.awaitBeat_slots (s : State) (op : Operation) (row : Option ModAddr) (i : Nat) (d : List Byte) (c : Option Nat) : (s.awaitBeat op row i d c).slots = s.slots := rfl
@[simp] theorem State.awaitBeat_faultLimit (s : State) (op : Operation) (row : Option ModAddr) (i : Nat) (d : List Byte) (c : Option Nat) : (s.awaitBeat op row i d c).faultLimit = s.faultLimit := rfl
@[simp] theorem State.awaitBeat_kinds (s : State) (op : Operation) (row : Option ModAddr) (i : Nat) (d : List Byte) (c : Option Nat) : (s.awaitBeat op row i d c).kinds = s.kinds := rfl
@[simp] theorem State.awaitBeat_lease (s : State) (op : Operation) (row : Option ModAddr) (i : Nat) (d : List Byte) (c : Option Nat) : (s.awaitBeat op row i d c).lease = s.lease := rfl
@[simp] theorem State.awaitBeat_free (s : State) (op : Operation) (row : Option ModAddr) (i : Nat) (d : List Byte) (c : Option Nat) : (s.awaitBeat op row i d c).free = s.free := rfl
@[simp] theorem State.awaitBeat_pending (s : State) (op : Operation) (row : Option ModAddr) (i : Nat) (d : List Byte) (c : Option Nat) : (s.awaitBeat op row i d c).pending = s.pending := rfl

@[simp] theorem State.clearSent_now (s : State) (n : Link) : (s.clearSent n).now = s.now := by simp only [State.clearSent]
@[simp] theorem State.clearSent_resetPin (s : State) (n : Link) : (s.clearSent n).resetPin = s.resetPin := by simp only [State.clearSent]
@[simp] theorem State.clearSent_losPin (s : State) (n : Link) : (s.clearSent n).losPin = s.losPin := by simp only [State.clearSent]
@[simp] theorem State.clearSent_alertPin (s : State) (n : Link) : (s.clearSent n).alertPin = s.alertPin := by simp only [State.clearSent]
@[simp] theorem State.clearSent_ports (s : State) (n : Link) : (s.clearSent n).ports = s.ports := by simp only [State.clearSent]
@[simp] theorem State.clearSent_adm (s : State) (n : Link) : (s.clearSent n).adm = s.adm := by simp only [State.clearSent]
@[simp] theorem State.clearSent_active (s : State) (n : Link) : (s.clearSent n).active = s.active := by simp only [State.clearSent]
@[simp] theorem State.clearSent_staging (s : State) (n : Link) : (s.clearSent n).staging = s.staging := by simp only [State.clearSent]
@[simp] theorem State.clearSent_locks (s : State) (n : Link) : (s.clearSent n).locks = s.locks := by simp only [State.clearSent]
@[simp] theorem State.clearSent_tickets (s : State) (n : Link) : (s.clearSent n).tickets = s.tickets := by simp only [State.clearSent]
@[simp] theorem State.clearSent_quota (s : State) (n : Link) : (s.clearSent n).quota = s.quota := by simp only [State.clearSent]
@[simp] theorem State.clearSent_discard (s : State) (n : Link) : (s.clearSent n).discard = s.discard := by simp only [State.clearSent]
@[simp] theorem State.clearSent_expired (s : State) (n : Link) : (s.clearSent n).expired = s.expired := by simp only [State.clearSent]
@[simp] theorem State.clearSent_queues (s : State) (n : Link) : (s.clearSent n).queues = s.queues := by simp only [State.clearSent]
@[simp] theorem State.clearSent_flushed (s : State) (n : Link) : (s.clearSent n).flushed = s.flushed := by simp only [State.clearSent]
@[simp] theorem State.clearSent_probes (s : State) (n : Link) : (s.clearSent n).probes = s.probes := by simp only [State.clearSent]
@[simp] theorem State.clearSent_pointer (s : State) (n : Link) : (s.clearSent n).pointer = s.pointer := by simp only [State.clearSent]
@[simp] theorem State.clearSent_bpc (s : State) (n : Link) : (s.clearSent n).bpc = s.bpc := by simp only [State.clearSent]
@[simp] theorem State.clearSent_timeoutSel (s : State) (n : Link) : (s.clearSent n).timeoutSel = s.timeoutSel := by simp only [State.clearSent]
@[simp] theorem State.clearSent_bus (s : State) (n : Link) : (s.clearSent n).bus = s.bus := by simp only [State.clearSent]
@[simp] theorem State.clearSent_slots (s : State) (n : Link) : (s.clearSent n).slots = s.slots := by simp only [State.clearSent]
@[simp] theorem State.clearSent_faultLimit (s : State) (n : Link) : (s.clearSent n).faultLimit = s.faultLimit := by simp only [State.clearSent]
@[simp] theorem State.clearSent_lease (s : State) (n : Link) : (s.clearSent n).lease = s.lease := by simp only [State.clearSent]
@[simp] theorem State.clearSent_free (s : State) (n : Link) : (s.clearSent n).free = s.free := by simp only [State.clearSent]
@[simp] theorem State.clearSent_pending (s : State) (n : Link) : (s.clearSent n).pending = s.pending := by simp only [State.clearSent]

@[simp] theorem State.resetTickets_now (s : State) (n : Link) : (s.resetTickets n).now = s.now := by simp only [State.resetTickets]
@[simp] theorem State.resetTickets_resetPin (s : State) (n : Link) : (s.resetTickets n).resetPin = s.resetPin := by simp only [State.resetTickets]
@[simp] theorem State.resetTickets_losPin (s : State) (n : Link) : (s.resetTickets n).losPin = s.losPin := by simp only [State.resetTickets]
@[simp] theorem State.resetTickets_alertPin (s : State) (n : Link) : (s.resetTickets n).alertPin = s.alertPin := by simp only [State.resetTickets]
@[simp] theorem State.resetTickets_ports (s : State) (n : Link) : (s.resetTickets n).ports = s.ports := by simp only [State.resetTickets]
@[simp] theorem State.resetTickets_adm (s : State) (n : Link) : (s.resetTickets n).adm = s.adm := by simp only [State.resetTickets]
@[simp] theorem State.resetTickets_active (s : State) (n : Link) : (s.resetTickets n).active = s.active := by simp only [State.resetTickets]
@[simp] theorem State.resetTickets_staging (s : State) (n : Link) : (s.resetTickets n).staging = s.staging := by simp only [State.resetTickets]
@[simp] theorem State.resetTickets_locks (s : State) (n : Link) : (s.resetTickets n).locks = s.locks := by simp only [State.resetTickets]
@[simp] theorem State.resetTickets_quota (s : State) (n : Link) : (s.resetTickets n).quota = s.quota := by simp only [State.resetTickets]
@[simp] theorem State.resetTickets_discard (s : State) (n : Link) : (s.resetTickets n).discard = s.discard := by simp only [State.resetTickets]
@[simp] theorem State.resetTickets_expired (s : State) (n : Link) : (s.resetTickets n).expired = s.expired := by simp only [State.resetTickets]
@[simp] theorem State.resetTickets_flushed (s : State) (n : Link) : (s.resetTickets n).flushed = s.flushed := by simp only [State.resetTickets]
@[simp] theorem State.resetTickets_probes (s : State) (n : Link) : (s.resetTickets n).probes = s.probes := by simp only [State.resetTickets]
@[simp] theorem State.resetTickets_pointer (s : State) (n : Link) : (s.resetTickets n).pointer = s.pointer := by simp only [State.resetTickets]
@[simp] theorem State.resetTickets_bpc (s : State) (n : Link) : (s.resetTickets n).bpc = s.bpc := by simp only [State.resetTickets]
@[simp] theorem State.resetTickets_timeoutSel (s : State) (n : Link) : (s.resetTickets n).timeoutSel = s.timeoutSel := by simp only [State.resetTickets]
@[simp] theorem State.resetTickets_bus (s : State) (n : Link) : (s.resetTickets n).bus = s.bus := by simp only [State.resetTickets]
@[simp] theorem State.resetTickets_slots (s : State) (n : Link) : (s.resetTickets n).slots = s.slots := by simp only [State.resetTickets]
@[simp] theorem State.resetTickets_faultLimit (s : State) (n : Link) : (s.resetTickets n).faultLimit = s.faultLimit := by simp only [State.resetTickets]
@[simp] theorem State.resetTickets_kinds (s : State) (n : Link) : (s.resetTickets n).kinds = s.kinds := by simp only [State.resetTickets]
@[simp] theorem State.resetTickets_lease (s : State) (n : Link) : (s.resetTickets n).lease = s.lease := by simp only [State.resetTickets]
@[simp] theorem State.resetTickets_free (s : State) (n : Link) : (s.resetTickets n).free = s.free := by simp only [State.resetTickets]
@[simp] theorem State.resetTickets_pending (s : State) (n : Link) : (s.resetTickets n).pending = s.pending := by simp only [State.resetTickets]

@[simp] theorem State.applyCommit_now (s : State) : (s.applyCommit).now = s.now := by simp only [State.applyCommit]
@[simp] theorem State.applyCommit_resetPin (s : State) : (s.applyCommit).resetPin = s.resetPin := by simp only [State.applyCommit]
@[simp] theorem State.applyCommit_losPin (s : State) : (s.applyCommit).losPin = s.losPin := by simp only [State.applyCommit]
@[simp] theorem State.applyCommit_alertPin (s : State) : (s.applyCommit).alertPin = s.alertPin := by simp only [State.applyCommit]
@[simp] theorem State.applyCommit_ports (s : State) : (s.applyCommit).ports = s.ports := by simp only [State.applyCommit]
@[simp] theorem State.applyCommit_adm (s : State) : (s.applyCommit).adm = s.adm := by simp only [State.applyCommit]
@[simp] theorem State.applyCommit_locks (s : State) : (s.applyCommit).locks = s.locks := by simp only [State.applyCommit]
@[simp] theorem State.applyCommit_tickets (s : State) : (s.applyCommit).tickets = s.tickets := by simp only [State.applyCommit]
@[simp] theorem State.applyCommit_quota (s : State) : (s.applyCommit).quota = s.quota := by simp only [State.applyCommit]
@[simp] theorem State.applyCommit_discard (s : State) : (s.applyCommit).discard = s.discard := by simp only [State.applyCommit]
@[simp] theorem State.applyCommit_expired (s : State) : (s.applyCommit).expired = s.expired := by simp only [State.applyCommit]
@[simp] theorem State.applyCommit_queues (s : State) : (s.applyCommit).queues = s.queues := by simp only [State.applyCommit]
@[simp] theorem State.applyCommit_flushed (s : State) : (s.applyCommit).flushed = s.flushed := by simp only [State.applyCommit]
@[simp] theorem State.applyCommit_probes (s : State) : (s.applyCommit).probes = s.probes := by simp only [State.applyCommit]
@[simp] theorem State.applyCommit_pointer (s : State) : (s.applyCommit).pointer = s.pointer := by simp only [State.applyCommit]
@[simp] theorem State.applyCommit_bpc (s : State) : (s.applyCommit).bpc = s.bpc := by simp only [State.applyCommit]
@[simp] theorem State.applyCommit_timeoutSel (s : State) : (s.applyCommit).timeoutSel = s.timeoutSel := by simp only [State.applyCommit]
@[simp] theorem State.applyCommit_bus (s : State) : (s.applyCommit).bus = s.bus := by simp only [State.applyCommit]
@[simp] theorem State.applyCommit_slots (s : State) : (s.applyCommit).slots = s.slots := by simp only [State.applyCommit]
@[simp] theorem State.applyCommit_faultLimit (s : State) : (s.applyCommit).faultLimit = s.faultLimit := by simp only [State.applyCommit]
@[simp] theorem State.applyCommit_kinds (s : State) : (s.applyCommit).kinds = s.kinds := by simp only [State.applyCommit]
@[simp] theorem State.applyCommit_lease (s : State) : (s.applyCommit).lease = s.lease := by simp only [State.applyCommit]
@[simp] theorem State.applyCommit_free (s : State) : (s.applyCommit).free = s.free := by simp only [State.applyCommit]
@[simp] theorem State.applyCommit_pending (s : State) : (s.applyCommit).pending = s.pending := by simp only [State.applyCommit]

@[simp] theorem State.clearNotices_now (s : State) : (s.clearNotices).now = s.now := rfl
@[simp] theorem State.clearNotices_resetPin (s : State) : (s.clearNotices).resetPin = s.resetPin := rfl
@[simp] theorem State.clearNotices_losPin (s : State) : (s.clearNotices).losPin = s.losPin := rfl
@[simp] theorem State.clearNotices_alertPin (s : State) : (s.clearNotices).alertPin = s.alertPin := rfl
@[simp] theorem State.clearNotices_ports (s : State) : (s.clearNotices).ports = s.ports := rfl
@[simp] theorem State.clearNotices_adm (s : State) : (s.clearNotices).adm = s.adm := rfl
@[simp] theorem State.clearNotices_active (s : State) : (s.clearNotices).active = s.active := rfl
@[simp] theorem State.clearNotices_staging (s : State) : (s.clearNotices).staging = s.staging := rfl
@[simp] theorem State.clearNotices_locks (s : State) : (s.clearNotices).locks = s.locks := rfl
@[simp] theorem State.clearNotices_tickets (s : State) : (s.clearNotices).tickets = s.tickets := rfl
@[simp] theorem State.clearNotices_quota (s : State) : (s.clearNotices).quota = s.quota := rfl
@[simp] theorem State.clearNotices_discard (s : State) : (s.clearNotices).discard = s.discard := rfl
@[simp] theorem State.clearNotices_expired (s : State) : (s.clearNotices).expired = s.expired := rfl
@[simp] theorem State.clearNotices_queues (s : State) : (s.clearNotices).queues = s.queues := rfl
@[simp] theorem State.clearNotices_flushed (s : State) : (s.clearNotices).flushed = s.flushed := rfl
@[simp] theorem State.clearNotices_probes (s : State) : (s.clearNotices).probes = s.probes := rfl
@[simp] theorem State.clearNotices_pointer (s : State) : (s.clearNotices).pointer = s.pointer := rfl
@[simp] theorem State.clearNotices_bpc (s : State) : (s.clearNotices).bpc = s.bpc := rfl
@[simp] theorem State.clearNotices_timeoutSel (s : State) : (s.clearNotices).timeoutSel = s.timeoutSel := rfl
@[simp] theorem State.clearNotices_bus (s : State) : (s.clearNotices).bus = s.bus := rfl
@[simp] theorem State.clearNotices_slots (s : State) : (s.clearNotices).slots = s.slots := rfl
@[simp] theorem State.clearNotices_faultLimit (s : State) : (s.clearNotices).faultLimit = s.faultLimit := rfl
@[simp] theorem State.clearNotices_lease (s : State) : (s.clearNotices).lease = s.lease := rfl
@[simp] theorem State.clearNotices_free (s : State) : (s.clearNotices).free = s.free := rfl
@[simp] theorem State.clearNotices_pending (s : State) : (s.clearNotices).pending = s.pending := rfl

@[simp] theorem State.counted_now (s : State) (n : Link) : (s.counted n).now = s.now := rfl
@[simp] theorem State.counted_resetPin (s : State) (n : Link) : (s.counted n).resetPin = s.resetPin := rfl
@[simp] theorem State.counted_losPin (s : State) (n : Link) : (s.counted n).losPin = s.losPin := rfl
@[simp] theorem State.counted_alertPin (s : State) (n : Link) : (s.counted n).alertPin = s.alertPin := rfl
@[simp] theorem State.counted_adm (s : State) (n : Link) : (s.counted n).adm = s.adm := rfl
@[simp] theorem State.counted_active (s : State) (n : Link) : (s.counted n).active = s.active := rfl
@[simp] theorem State.counted_staging (s : State) (n : Link) : (s.counted n).staging = s.staging := rfl
@[simp] theorem State.counted_locks (s : State) (n : Link) : (s.counted n).locks = s.locks := rfl
@[simp] theorem State.counted_tickets (s : State) (n : Link) : (s.counted n).tickets = s.tickets := rfl
@[simp] theorem State.counted_quota (s : State) (n : Link) : (s.counted n).quota = s.quota := rfl
@[simp] theorem State.counted_discard (s : State) (n : Link) : (s.counted n).discard = s.discard := rfl
@[simp] theorem State.counted_expired (s : State) (n : Link) : (s.counted n).expired = s.expired := rfl
@[simp] theorem State.counted_queues (s : State) (n : Link) : (s.counted n).queues = s.queues := rfl
@[simp] theorem State.counted_flushed (s : State) (n : Link) : (s.counted n).flushed = s.flushed := rfl
@[simp] theorem State.counted_probes (s : State) (n : Link) : (s.counted n).probes = s.probes := rfl
@[simp] theorem State.counted_pointer (s : State) (n : Link) : (s.counted n).pointer = s.pointer := rfl
@[simp] theorem State.counted_bpc (s : State) (n : Link) : (s.counted n).bpc = s.bpc := rfl
@[simp] theorem State.counted_timeoutSel (s : State) (n : Link) : (s.counted n).timeoutSel = s.timeoutSel := rfl
@[simp] theorem State.counted_bus (s : State) (n : Link) : (s.counted n).bus = s.bus := rfl
@[simp] theorem State.counted_slots (s : State) (n : Link) : (s.counted n).slots = s.slots := rfl
@[simp] theorem State.counted_faultLimit (s : State) (n : Link) : (s.counted n).faultLimit = s.faultLimit := rfl
@[simp] theorem State.counted_kinds (s : State) (n : Link) : (s.counted n).kinds = s.kinds := rfl
@[simp] theorem State.counted_lease (s : State) (n : Link) : (s.counted n).lease = s.lease := rfl
@[simp] theorem State.counted_free (s : State) (n : Link) : (s.counted n).free = s.free := rfl
@[simp] theorem State.counted_pending (s : State) (n : Link) : (s.counted n).pending = s.pending := rfl

@[simp] theorem State.sent_now (s : State) (n : Link) (fs : List OutFrame) : (s.sent n fs).now = s.now := rfl
@[simp] theorem State.sent_resetPin (s : State) (n : Link) (fs : List OutFrame) : (s.sent n fs).resetPin = s.resetPin := rfl
@[simp] theorem State.sent_losPin (s : State) (n : Link) (fs : List OutFrame) : (s.sent n fs).losPin = s.losPin := rfl
@[simp] theorem State.sent_alertPin (s : State) (n : Link) (fs : List OutFrame) : (s.sent n fs).alertPin = s.alertPin := rfl
@[simp] theorem State.sent_adm (s : State) (n : Link) (fs : List OutFrame) : (s.sent n fs).adm = s.adm := rfl
@[simp] theorem State.sent_active (s : State) (n : Link) (fs : List OutFrame) : (s.sent n fs).active = s.active := rfl
@[simp] theorem State.sent_staging (s : State) (n : Link) (fs : List OutFrame) : (s.sent n fs).staging = s.staging := rfl
@[simp] theorem State.sent_locks (s : State) (n : Link) (fs : List OutFrame) : (s.sent n fs).locks = s.locks := rfl
@[simp] theorem State.sent_tickets (s : State) (n : Link) (fs : List OutFrame) : (s.sent n fs).tickets = s.tickets := rfl
@[simp] theorem State.sent_quota (s : State) (n : Link) (fs : List OutFrame) : (s.sent n fs).quota = s.quota := rfl
@[simp] theorem State.sent_discard (s : State) (n : Link) (fs : List OutFrame) : (s.sent n fs).discard = s.discard := rfl
@[simp] theorem State.sent_expired (s : State) (n : Link) (fs : List OutFrame) : (s.sent n fs).expired = s.expired := rfl
@[simp] theorem State.sent_queues (s : State) (n : Link) (fs : List OutFrame) : (s.sent n fs).queues = s.queues := rfl
@[simp] theorem State.sent_flushed (s : State) (n : Link) (fs : List OutFrame) : (s.sent n fs).flushed = s.flushed := rfl
@[simp] theorem State.sent_probes (s : State) (n : Link) (fs : List OutFrame) : (s.sent n fs).probes = s.probes := rfl
@[simp] theorem State.sent_pointer (s : State) (n : Link) (fs : List OutFrame) : (s.sent n fs).pointer = s.pointer := rfl
@[simp] theorem State.sent_bpc (s : State) (n : Link) (fs : List OutFrame) : (s.sent n fs).bpc = s.bpc := rfl
@[simp] theorem State.sent_timeoutSel (s : State) (n : Link) (fs : List OutFrame) : (s.sent n fs).timeoutSel = s.timeoutSel := rfl
@[simp] theorem State.sent_bus (s : State) (n : Link) (fs : List OutFrame) : (s.sent n fs).bus = s.bus := rfl
@[simp] theorem State.sent_slots (s : State) (n : Link) (fs : List OutFrame) : (s.sent n fs).slots = s.slots := rfl
@[simp] theorem State.sent_faultLimit (s : State) (n : Link) (fs : List OutFrame) : (s.sent n fs).faultLimit = s.faultLimit := rfl
@[simp] theorem State.sent_kinds (s : State) (n : Link) (fs : List OutFrame) : (s.sent n fs).kinds = s.kinds := rfl
@[simp] theorem State.sent_lease (s : State) (n : Link) (fs : List OutFrame) : (s.sent n fs).lease = s.lease := rfl
@[simp] theorem State.sent_free (s : State) (n : Link) (fs : List OutFrame) : (s.sent n fs).free = s.free := rfl
@[simp] theorem State.sent_pending (s : State) (n : Link) (fs : List OutFrame) : (s.sent n fs).pending = s.pending := rfl

@[simp] theorem State.answered_now (s : State) (n : Link) (fs : List OutFrame) : (s.answered n fs).now = s.now := rfl
@[simp] theorem State.answered_resetPin (s : State) (n : Link) (fs : List OutFrame) : (s.answered n fs).resetPin = s.resetPin := rfl
@[simp] theorem State.answered_losPin (s : State) (n : Link) (fs : List OutFrame) : (s.answered n fs).losPin = s.losPin := rfl
@[simp] theorem State.answered_alertPin (s : State) (n : Link) (fs : List OutFrame) : (s.answered n fs).alertPin = s.alertPin := rfl
@[simp] theorem State.answered_adm (s : State) (n : Link) (fs : List OutFrame) : (s.answered n fs).adm = s.adm := rfl
@[simp] theorem State.answered_active (s : State) (n : Link) (fs : List OutFrame) : (s.answered n fs).active = s.active := rfl
@[simp] theorem State.answered_staging (s : State) (n : Link) (fs : List OutFrame) : (s.answered n fs).staging = s.staging := rfl
@[simp] theorem State.answered_locks (s : State) (n : Link) (fs : List OutFrame) : (s.answered n fs).locks = s.locks := rfl
@[simp] theorem State.answered_tickets (s : State) (n : Link) (fs : List OutFrame) : (s.answered n fs).tickets = s.tickets := rfl
@[simp] theorem State.answered_quota (s : State) (n : Link) (fs : List OutFrame) : (s.answered n fs).quota = s.quota := rfl
@[simp] theorem State.answered_discard (s : State) (n : Link) (fs : List OutFrame) : (s.answered n fs).discard = s.discard := rfl
@[simp] theorem State.answered_expired (s : State) (n : Link) (fs : List OutFrame) : (s.answered n fs).expired = s.expired := rfl
@[simp] theorem State.answered_queues (s : State) (n : Link) (fs : List OutFrame) : (s.answered n fs).queues = s.queues := rfl
@[simp] theorem State.answered_flushed (s : State) (n : Link) (fs : List OutFrame) : (s.answered n fs).flushed = s.flushed := rfl
@[simp] theorem State.answered_probes (s : State) (n : Link) (fs : List OutFrame) : (s.answered n fs).probes = s.probes := rfl
@[simp] theorem State.answered_pointer (s : State) (n : Link) (fs : List OutFrame) : (s.answered n fs).pointer = s.pointer := rfl
@[simp] theorem State.answered_bpc (s : State) (n : Link) (fs : List OutFrame) : (s.answered n fs).bpc = s.bpc := rfl
@[simp] theorem State.answered_timeoutSel (s : State) (n : Link) (fs : List OutFrame) : (s.answered n fs).timeoutSel = s.timeoutSel := rfl
@[simp] theorem State.answered_bus (s : State) (n : Link) (fs : List OutFrame) : (s.answered n fs).bus = s.bus := rfl
@[simp] theorem State.answered_slots (s : State) (n : Link) (fs : List OutFrame) : (s.answered n fs).slots = s.slots := rfl
@[simp] theorem State.answered_faultLimit (s : State) (n : Link) (fs : List OutFrame) : (s.answered n fs).faultLimit = s.faultLimit := rfl
@[simp] theorem State.answered_kinds (s : State) (n : Link) (fs : List OutFrame) : (s.answered n fs).kinds = s.kinds := rfl
@[simp] theorem State.answered_lease (s : State) (n : Link) (fs : List OutFrame) : (s.answered n fs).lease = s.lease := rfl
@[simp] theorem State.answered_free (s : State) (n : Link) (fs : List OutFrame) : (s.answered n fs).free = s.free := rfl
@[simp] theorem State.answered_pending (s : State) (n : Link) (fs : List OutFrame) : (s.answered n fs).pending = s.pending := rfl

@[simp] theorem State.replied_now (s : State) (n : Link) (tag code : Byte) (st : Status) (rs : List Byte) : (s.replied n tag code st rs).now = s.now := rfl
@[simp] theorem State.replied_resetPin (s : State) (n : Link) (tag code : Byte) (st : Status) (rs : List Byte) : (s.replied n tag code st rs).resetPin = s.resetPin := rfl
@[simp] theorem State.replied_losPin (s : State) (n : Link) (tag code : Byte) (st : Status) (rs : List Byte) : (s.replied n tag code st rs).losPin = s.losPin := rfl
@[simp] theorem State.replied_alertPin (s : State) (n : Link) (tag code : Byte) (st : Status) (rs : List Byte) : (s.replied n tag code st rs).alertPin = s.alertPin := rfl
@[simp] theorem State.replied_adm (s : State) (n : Link) (tag code : Byte) (st : Status) (rs : List Byte) : (s.replied n tag code st rs).adm = s.adm := rfl
@[simp] theorem State.replied_active (s : State) (n : Link) (tag code : Byte) (st : Status) (rs : List Byte) : (s.replied n tag code st rs).active = s.active := rfl
@[simp] theorem State.replied_staging (s : State) (n : Link) (tag code : Byte) (st : Status) (rs : List Byte) : (s.replied n tag code st rs).staging = s.staging := rfl
@[simp] theorem State.replied_locks (s : State) (n : Link) (tag code : Byte) (st : Status) (rs : List Byte) : (s.replied n tag code st rs).locks = s.locks := rfl
@[simp] theorem State.replied_tickets (s : State) (n : Link) (tag code : Byte) (st : Status) (rs : List Byte) : (s.replied n tag code st rs).tickets = s.tickets := rfl
@[simp] theorem State.replied_quota (s : State) (n : Link) (tag code : Byte) (st : Status) (rs : List Byte) : (s.replied n tag code st rs).quota = s.quota := rfl
@[simp] theorem State.replied_discard (s : State) (n : Link) (tag code : Byte) (st : Status) (rs : List Byte) : (s.replied n tag code st rs).discard = s.discard := rfl
@[simp] theorem State.replied_expired (s : State) (n : Link) (tag code : Byte) (st : Status) (rs : List Byte) : (s.replied n tag code st rs).expired = s.expired := rfl
@[simp] theorem State.replied_queues (s : State) (n : Link) (tag code : Byte) (st : Status) (rs : List Byte) : (s.replied n tag code st rs).queues = s.queues := rfl
@[simp] theorem State.replied_flushed (s : State) (n : Link) (tag code : Byte) (st : Status) (rs : List Byte) : (s.replied n tag code st rs).flushed = s.flushed := rfl
@[simp] theorem State.replied_probes (s : State) (n : Link) (tag code : Byte) (st : Status) (rs : List Byte) : (s.replied n tag code st rs).probes = s.probes := rfl
@[simp] theorem State.replied_pointer (s : State) (n : Link) (tag code : Byte) (st : Status) (rs : List Byte) : (s.replied n tag code st rs).pointer = s.pointer := rfl
@[simp] theorem State.replied_bpc (s : State) (n : Link) (tag code : Byte) (st : Status) (rs : List Byte) : (s.replied n tag code st rs).bpc = s.bpc := rfl
@[simp] theorem State.replied_timeoutSel (s : State) (n : Link) (tag code : Byte) (st : Status) (rs : List Byte) : (s.replied n tag code st rs).timeoutSel = s.timeoutSel := rfl
@[simp] theorem State.replied_bus (s : State) (n : Link) (tag code : Byte) (st : Status) (rs : List Byte) : (s.replied n tag code st rs).bus = s.bus := rfl
@[simp] theorem State.replied_slots (s : State) (n : Link) (tag code : Byte) (st : Status) (rs : List Byte) : (s.replied n tag code st rs).slots = s.slots := rfl
@[simp] theorem State.replied_faultLimit (s : State) (n : Link) (tag code : Byte) (st : Status) (rs : List Byte) : (s.replied n tag code st rs).faultLimit = s.faultLimit := rfl
@[simp] theorem State.replied_kinds (s : State) (n : Link) (tag code : Byte) (st : Status) (rs : List Byte) : (s.replied n tag code st rs).kinds = s.kinds := rfl
@[simp] theorem State.replied_lease (s : State) (n : Link) (tag code : Byte) (st : Status) (rs : List Byte) : (s.replied n tag code st rs).lease = s.lease := rfl
@[simp] theorem State.replied_free (s : State) (n : Link) (tag code : Byte) (st : Status) (rs : List Byte) : (s.replied n tag code st rs).free = s.free := rfl
@[simp] theorem State.replied_pending (s : State) (n : Link) (tag code : Byte) (st : Status) (rs : List Byte) : (s.replied n tag code st rs).pending = s.pending := rfl

/-! ### What the accessors read after an update -/


theorem State.updPort_port (s : State) (n m : Link) (f : Port → Port) :
    (s.updPort n f).port m = if m = n then f (s.port n) else s.port m := PerLink.get_set _ _ _ _

theorem State.form_port (s : State) (n m : Link) (f : OutFrame) :
    (s.form n f).port m = if m = n then (s.port n).form f else s.port m := PerLink.get_set _ _ _ _

theorem State.report_port (s : State) (n m : Link) (c : Nat) :
    (s.report n c).port m = if m = n then (s.port n).report c else s.port m := PerLink.get_set _ _ _ _

theorem State.setQueue_queue (s : State) (n m : Link) (es : List WorkEntry) :
    (s.setQueue n es).queue m = if m = n then es else s.queue m := PerLink.get_set _ _ _ _

theorem State.updTicket_ticket (s : State) (t u : Fin 24) (f : Ticket → Ticket) :
    (s.updTicket t f).ticket u = if u = t then f (s.ticket t) else s.ticket u := updAt_get _ _ _ _

theorem State.freeTicket_ticket (s : State) (t u : Fin 24) :
    (s.freeTicket t).ticket u = if u = t then (s.ticket t).freed else s.ticket u := updAt_get _ _ _ _

theorem State.setTicketState_ticket (s : State) (t u : Fin 24) (st : TicketState) :
    (s.setTicketState t st).ticket u = if u = t then ⟨(s.ticket t).gen, st⟩ else s.ticket u := updAt_get _ _ _ _

theorem State.updSlot_slot (s : State) (i j : Fin 16) (f : Slot → Slot) :
    (s.updSlot i f).slot j = if j = i then f (s.slot i) else s.slot j := updAt_get _ _ _ _

theorem NoticeKind.index_inj (k l : NoticeKind) : k.index = l.index ↔ k = l := by
  cases k <;> cases l <;> simp [NoticeKind.index]

theorem State.updKind_kind (s : State) (k l : NoticeKind) (f : KindRecord → KindRecord) :
    (s.updKind k f).kind l = if l = k then f (s.kind k) else s.kind l := by
  simp only [State.kind, State.updKind, updAt_get, NoticeKind.index_inj]

theorem State.clearSent_kind (s : State) (n : Link) (k : NoticeKind) :
    (s.clearSent n).kind k = { s.kind k with sent := (s.kind k).sent.set n false } := by
  simp [State.kind, State.clearSent]

theorem State.resetTickets_ticket (s : State) (n : Link) (t : Fin 24) :
    (s.resetTickets n).ticket t = (s.ticket t).linkReset n := by
  simp [State.ticket, State.resetTickets]

theorem State.resetTickets_queue (s : State) (n m : Link) :
    (s.resetTickets n).queue m = if m = n then (s.queue n).filter (·.isPosted) else s.queue m :=
  PerLink.get_set _ _ _ _

end Machine

end Sys2Proof
end

