-- ==== Sys2Proof/Laws/Frames.lean ====
section
/-! SUPPORT. What each shared operation leaves unchanged: one lemma for each field that it does not write. -/

namespace Sys2Proof.Machine

/-! `emit` writes ports, kinds at most. -/

@[simp] theorem State.emit_now (s : State) (k : NoticeKind) (n : Link) : (s.emit k n).now = s.now := by
  unfold State.emit; split
  · rfl
  · split <;> rfl
@[simp] theorem State.emit_resetPin (s : State) (k : NoticeKind) (n : Link) : (s.emit k n).resetPin = s.resetPin := by
  unfold State.emit; split
  · rfl
  · split <;> rfl
@[simp] theorem State.emit_losPin (s : State) (k : NoticeKind) (n : Link) : (s.emit k n).losPin = s.losPin := by
  unfold State.emit; split
  · rfl
  · split <;> rfl
@[simp] theorem State.emit_alertPin (s : State) (k : NoticeKind) (n : Link) : (s.emit k n).alertPin = s.alertPin := by
  unfold State.emit; split
  · rfl
  · split <;> rfl
@[simp] theorem State.emit_adm (s : State) (k : NoticeKind) (n : Link) : (s.emit k n).adm = s.adm := by
  unfold State.emit; split
  · rfl
  · split <;> rfl
@[simp] theorem State.emit_active (s : State) (k : NoticeKind) (n : Link) : (s.emit k n).active = s.active := by
  unfold State.emit; split
  · rfl
  · split <;> rfl
@[simp] theorem State.emit_staging (s : State) (k : NoticeKind) (n : Link) : (s.emit k n).staging = s.staging := by
  unfold State.emit; split
  · rfl
  · split <;> rfl
@[simp] theorem State.emit_locks (s : State) (k : NoticeKind) (n : Link) : (s.emit k n).locks = s.locks := by
  unfold State.emit; split
  · rfl
  · split <;> rfl
@[simp] theorem State.emit_tickets (s : State) (k : NoticeKind) (n : Link) : (s.emit k n).tickets = s.tickets := by
  unfold State.emit; split
  · rfl
  · split <;> rfl
@[simp] theorem State.emit_quota (s : State) (k : NoticeKind) (n : Link) : (s.emit k n).quota = s.quota := by
  unfold State.emit; split
  · rfl
  · split <;> rfl
@[simp] theorem State.emit_discard (s : State) (k : NoticeKind) (n : Link) : (s.emit k n).discard = s.discard := by
  unfold State.emit; split
  · rfl
  · split <;> rfl
@[simp] theorem State.emit_expired (s : State) (k : NoticeKind) (n : Link) : (s.emit k n).expired = s.expired := by
  unfold State.emit; split
  · rfl
  · split <;> rfl
@[simp] theorem State.emit_queues (s : State) (k : NoticeKind) (n : Link) : (s.emit k n).queues = s.queues := by
  unfold State.emit; split
  · rfl
  · split <;> rfl
@[simp] theorem State.emit_flushed (s : State) (k : NoticeKind) (n : Link) : (s.emit k n).flushed = s.flushed := by
  unfold State.emit; split
  · rfl
  · split <;> rfl
@[simp] theorem State.emit_probes (s : State) (k : NoticeKind) (n : Link) : (s.emit k n).probes = s.probes := by
  unfold State.emit; split
  · rfl
  · split <;> rfl
@[simp] theorem State.emit_pointer (s : State) (k : NoticeKind) (n : Link) : (s.emit k n).pointer = s.pointer := by
  unfold State.emit; split
  · rfl
  · split <;> rfl
@[simp] theorem State.emit_bpc (s : State) (k : NoticeKind) (n : Link) : (s.emit k n).bpc = s.bpc := by
  unfold State.emit; split
  · rfl
  · split <;> rfl
@[simp] theorem State.emit_timeoutSel (s : State) (k : NoticeKind) (n : Link) : (s.emit k n).timeoutSel = s.timeoutSel := by
  unfold State.emit; split
  · rfl
  · split <;> rfl
@[simp] theorem State.emit_bus (s : State) (k : NoticeKind) (n : Link) : (s.emit k n).bus = s.bus := by
  unfold State.emit; split
  · rfl
  · split <;> rfl
@[simp] theorem State.emit_slots (s : State) (k : NoticeKind) (n : Link) : (s.emit k n).slots = s.slots := by
  unfold State.emit; split
  · rfl
  · split <;> rfl
@[simp] theorem State.emit_faultLimit (s : State) (k : NoticeKind) (n : Link) : (s.emit k n).faultLimit = s.faultLimit := by
  unfold State.emit; split
  · rfl
  · split <;> rfl
@[simp] theorem State.emit_lease (s : State) (k : NoticeKind) (n : Link) : (s.emit k n).lease = s.lease := by
  unfold State.emit; split
  · rfl
  · split <;> rfl
@[simp] theorem State.emit_free (s : State) (k : NoticeKind) (n : Link) : (s.emit k n).free = s.free := by
  unfold State.emit; split
  · rfl
  · split <;> rfl
@[simp] theorem State.emit_pending (s : State) (k : NoticeKind) (n : Link) : (s.emit k n).pending = s.pending := by
  unfold State.emit; split
  · rfl
  · split <;> rfl

/-! `raise` writes ports, kinds at most. -/

@[simp] theorem State.raise_now (s : State) (d : Detail) : (s.raise d).now = s.now := by simp [State.raise]
@[simp] theorem State.raise_resetPin (s : State) (d : Detail) : (s.raise d).resetPin = s.resetPin := by simp [State.raise]
@[simp] theorem State.raise_losPin (s : State) (d : Detail) : (s.raise d).losPin = s.losPin := by simp [State.raise]
@[simp] theorem State.raise_alertPin (s : State) (d : Detail) : (s.raise d).alertPin = s.alertPin := by simp [State.raise]
@[simp] theorem State.raise_adm (s : State) (d : Detail) : (s.raise d).adm = s.adm := by simp [State.raise]
@[simp] theorem State.raise_active (s : State) (d : Detail) : (s.raise d).active = s.active := by simp [State.raise]
@[simp] theorem State.raise_staging (s : State) (d : Detail) : (s.raise d).staging = s.staging := by simp [State.raise]
@[simp] theorem State.raise_locks (s : State) (d : Detail) : (s.raise d).locks = s.locks := by simp [State.raise]
@[simp] theorem State.raise_tickets (s : State) (d : Detail) : (s.raise d).tickets = s.tickets := by simp [State.raise]
@[simp] theorem State.raise_quota (s : State) (d : Detail) : (s.raise d).quota = s.quota := by simp [State.raise]
@[simp] theorem State.raise_discard (s : State) (d : Detail) : (s.raise d).discard = s.discard := by simp [State.raise]
@[simp] theorem State.raise_expired (s : State) (d : Detail) : (s.raise d).expired = s.expired := by simp [State.raise]
@[simp] theorem State.raise_queues (s : State) (d : Detail) : (s.raise d).queues = s.queues := by simp [State.raise]
@[simp] theorem State.raise_flushed (s : State) (d : Detail) : (s.raise d).flushed = s.flushed := by simp [State.raise]
@[simp] theorem State.raise_probes (s : State) (d : Detail) : (s.raise d).probes = s.probes := by simp [State.raise]
@[simp] theorem State.raise_pointer (s : State) (d : Detail) : (s.raise d).pointer = s.pointer := by simp [State.raise]
@[simp] theorem State.raise_bpc (s : State) (d : Detail) : (s.raise d).bpc = s.bpc := by simp [State.raise]
@[simp] theorem State.raise_timeoutSel (s : State) (d : Detail) : (s.raise d).timeoutSel = s.timeoutSel := by simp [State.raise]
@[simp] theorem State.raise_bus (s : State) (d : Detail) : (s.raise d).bus = s.bus := by simp [State.raise]
@[simp] theorem State.raise_slots (s : State) (d : Detail) : (s.raise d).slots = s.slots := by simp [State.raise]
@[simp] theorem State.raise_faultLimit (s : State) (d : Detail) : (s.raise d).faultLimit = s.faultLimit := by simp [State.raise]
@[simp] theorem State.raise_lease (s : State) (d : Detail) : (s.raise d).lease = s.lease := by simp [State.raise]
@[simp] theorem State.raise_free (s : State) (d : Detail) : (s.raise d).free = s.free := by simp [State.raise]
@[simp] theorem State.raise_pending (s : State) (d : Detail) : (s.raise d).pending = s.pending := by simp [State.raise]

/-! `emitAll` writes ports, kinds at most. -/

@[simp] theorem State.emitAll_now (s : State) (n : Link) : (s.emitAll n).now = s.now := by simp [State.emitAll, NoticeKind.all]
@[simp] theorem State.emitAll_resetPin (s : State) (n : Link) : (s.emitAll n).resetPin = s.resetPin := by simp [State.emitAll, NoticeKind.all]
@[simp] theorem State.emitAll_losPin (s : State) (n : Link) : (s.emitAll n).losPin = s.losPin := by simp [State.emitAll, NoticeKind.all]
@[simp] theorem State.emitAll_alertPin (s : State) (n : Link) : (s.emitAll n).alertPin = s.alertPin := by simp [State.emitAll, NoticeKind.all]
@[simp] theorem State.emitAll_adm (s : State) (n : Link) : (s.emitAll n).adm = s.adm := by simp [State.emitAll, NoticeKind.all]
@[simp] theorem State.emitAll_active (s : State) (n : Link) : (s.emitAll n).active = s.active := by simp [State.emitAll, NoticeKind.all]
@[simp] theorem State.emitAll_staging (s : State) (n : Link) : (s.emitAll n).staging = s.staging := by simp [State.emitAll, NoticeKind.all]
@[simp] theorem State.emitAll_locks (s : State) (n : Link) : (s.emitAll n).locks = s.locks := by simp [State.emitAll, NoticeKind.all]
@[simp] theorem State.emitAll_tickets (s : State) (n : Link) : (s.emitAll n).tickets = s.tickets := by simp [State.emitAll, NoticeKind.all]
@[simp] theorem State.emitAll_quota (s : State) (n : Link) : (s.emitAll n).quota = s.quota := by simp [State.emitAll, NoticeKind.all]
@[simp] theorem State.emitAll_discard (s : State) (n : Link) : (s.emitAll n).discard = s.discard := by simp [State.emitAll, NoticeKind.all]
@[simp] theorem State.emitAll_expired (s : State) (n : Link) : (s.emitAll n).expired = s.expired := by simp [State.emitAll, NoticeKind.all]
@[simp] theorem State.emitAll_queues (s : State) (n : Link) : (s.emitAll n).queues = s.queues := by simp [State.emitAll, NoticeKind.all]
@[simp] theorem State.emitAll_flushed (s : State) (n : Link) : (s.emitAll n).flushed = s.flushed := by simp [State.emitAll, NoticeKind.all]
@[simp] theorem State.emitAll_probes (s : State) (n : Link) : (s.emitAll n).probes = s.probes := by simp [State.emitAll, NoticeKind.all]
@[simp] theorem State.emitAll_pointer (s : State) (n : Link) : (s.emitAll n).pointer = s.pointer := by simp [State.emitAll, NoticeKind.all]
@[simp] theorem State.emitAll_bpc (s : State) (n : Link) : (s.emitAll n).bpc = s.bpc := by simp [State.emitAll, NoticeKind.all]
@[simp] theorem State.emitAll_timeoutSel (s : State) (n : Link) : (s.emitAll n).timeoutSel = s.timeoutSel := by simp [State.emitAll, NoticeKind.all]
@[simp] theorem State.emitAll_bus (s : State) (n : Link) : (s.emitAll n).bus = s.bus := by simp [State.emitAll, NoticeKind.all]
@[simp] theorem State.emitAll_slots (s : State) (n : Link) : (s.emitAll n).slots = s.slots := by simp [State.emitAll, NoticeKind.all]
@[simp] theorem State.emitAll_faultLimit (s : State) (n : Link) : (s.emitAll n).faultLimit = s.faultLimit := by simp [State.emitAll, NoticeKind.all]
@[simp] theorem State.emitAll_lease (s : State) (n : Link) : (s.emitAll n).lease = s.lease := by simp [State.emitAll, NoticeKind.all]
@[simp] theorem State.emitAll_free (s : State) (n : Link) : (s.emitAll n).free = s.free := by simp [State.emitAll, NoticeKind.all]
@[simp] theorem State.emitAll_pending (s : State) (n : Link) : (s.emitAll n).pending = s.pending := by simp [State.emitAll, NoticeKind.all]

/-! `reportCount` writes ports at most. -/

@[simp] theorem State.reportCount_now (s : State) (n : Link) (c : Nat) : (s.reportCount n c).now = s.now := by
  unfold State.reportCount; split <;> rfl
@[simp] theorem State.reportCount_resetPin (s : State) (n : Link) (c : Nat) : (s.reportCount n c).resetPin = s.resetPin := by
  unfold State.reportCount; split <;> rfl
@[simp] theorem State.reportCount_losPin (s : State) (n : Link) (c : Nat) : (s.reportCount n c).losPin = s.losPin := by
  unfold State.reportCount; split <;> rfl
@[simp] theorem State.reportCount_alertPin (s : State) (n : Link) (c : Nat) : (s.reportCount n c).alertPin = s.alertPin := by
  unfold State.reportCount; split <;> rfl
@[simp] theorem State.reportCount_adm (s : State) (n : Link) (c : Nat) : (s.reportCount n c).adm = s.adm := by
  unfold State.reportCount; split <;> rfl
@[simp] theorem State.reportCount_active (s : State) (n : Link) (c : Nat) : (s.reportCount n c).active = s.active := by
  unfold State.reportCount; split <;> rfl
@[simp] theorem State.reportCount_staging (s : State) (n : Link) (c : Nat) : (s.reportCount n c).staging = s.staging := by
  unfold State.reportCount; split <;> rfl
@[simp] theorem State.reportCount_locks (s : State) (n : Link) (c : Nat) : (s.reportCount n c).locks = s.locks := by
  unfold State.reportCount; split <;> rfl
@[simp] theorem State.reportCount_tickets (s : State) (n : Link) (c : Nat) : (s.reportCount n c).tickets = s.tickets := by
  unfold State.reportCount; split <;> rfl
@[simp] theorem State.reportCount_quota (s : State) (n : Link) (c : Nat) : (s.reportCount n c).quota = s.quota := by
  unfold State.reportCount; split <;> rfl
@[simp] theorem State.reportCount_discard (s : State) (n : Link) (c : Nat) : (s.reportCount n c).discard = s.discard := by
  unfold State.reportCount; split <;> rfl
@[simp] theorem State.reportCount_expired (s : State) (n : Link) (c : Nat) : (s.reportCount n c).expired = s.expired := by
  unfold State.reportCount; split <;> rfl
@[simp] theorem State.reportCount_queues (s : State) (n : Link) (c : Nat) : (s.reportCount n c).queues = s.queues := by
  unfold State.reportCount; split <;> rfl
@[simp] theorem State.reportCount_flushed (s : State) (n : Link) (c : Nat) : (s.reportCount n c).flushed = s.flushed := by
  unfold State.reportCount; split <;> rfl
@[simp] theorem State.reportCount_probes (s : State) (n : Link) (c : Nat) : (s.reportCount n c).probes = s.probes := by
  unfold State.reportCount; split <;> rfl
@[simp] theorem State.reportCount_pointer (s : State) (n : Link) (c : Nat) : (s.reportCount n c).pointer = s.pointer := by
  unfold State.reportCount; split <;> rfl
@[simp] theorem State.reportCount_bpc (s : State) (n : Link) (c : Nat) : (s.reportCount n c).bpc = s.bpc := by
  unfold State.reportCount; split <;> rfl
@[simp] theorem State.reportCount_timeoutSel (s : State) (n : Link) (c : Nat) : (s.reportCount n c).timeoutSel = s.timeoutSel := by
  unfold State.reportCount; split <;> rfl
@[simp] theorem State.reportCount_bus (s : State) (n : Link) (c : Nat) : (s.reportCount n c).bus = s.bus := by
  unfold State.reportCount; split <;> rfl
@[simp] theorem State.reportCount_slots (s : State) (n : Link) (c : Nat) : (s.reportCount n c).slots = s.slots := by
  unfold State.reportCount; split <;> rfl
@[simp] theorem State.reportCount_faultLimit (s : State) (n : Link) (c : Nat) : (s.reportCount n c).faultLimit = s.faultLimit := by
  unfold State.reportCount; split <;> rfl
@[simp] theorem State.reportCount_kinds (s : State) (n : Link) (c : Nat) : (s.reportCount n c).kinds = s.kinds := by
  unfold State.reportCount; split <;> rfl
@[simp] theorem State.reportCount_lease (s : State) (n : Link) (c : Nat) : (s.reportCount n c).lease = s.lease := by
  unfold State.reportCount; split <;> rfl
@[simp] theorem State.reportCount_free (s : State) (n : Link) (c : Nat) : (s.reportCount n c).free = s.free := by
  unfold State.reportCount; split <;> rfl
@[simp] theorem State.reportCount_pending (s : State) (n : Link) (c : Nat) : (s.reportCount n c).pending = s.pending := by
  unfold State.reportCount; split <;> rfl

/-! `changeSlot` writes slots, ports, kinds at most. -/

@[simp] theorem State.changeSlot_now (s : State) (i : Fin 16) (r : Slot) (c : ChangeCause) : (s.changeSlot i r c).now = s.now := by simp [State.changeSlot]
@[simp] theorem State.changeSlot_resetPin (s : State) (i : Fin 16) (r : Slot) (c : ChangeCause) : (s.changeSlot i r c).resetPin = s.resetPin := by simp [State.changeSlot]
@[simp] theorem State.changeSlot_losPin (s : State) (i : Fin 16) (r : Slot) (c : ChangeCause) : (s.changeSlot i r c).losPin = s.losPin := by simp [State.changeSlot]
@[simp] theorem State.changeSlot_alertPin (s : State) (i : Fin 16) (r : Slot) (c : ChangeCause) : (s.changeSlot i r c).alertPin = s.alertPin := by simp [State.changeSlot]
@[simp] theorem State.changeSlot_adm (s : State) (i : Fin 16) (r : Slot) (c : ChangeCause) : (s.changeSlot i r c).adm = s.adm := by simp [State.changeSlot]
@[simp] theorem State.changeSlot_active (s : State) (i : Fin 16) (r : Slot) (c : ChangeCause) : (s.changeSlot i r c).active = s.active := by simp [State.changeSlot]
@[simp] theorem State.changeSlot_staging (s : State) (i : Fin 16) (r : Slot) (c : ChangeCause) : (s.changeSlot i r c).staging = s.staging := by simp [State.changeSlot]
@[simp] theorem State.changeSlot_locks (s : State) (i : Fin 16) (r : Slot) (c : ChangeCause) : (s.changeSlot i r c).locks = s.locks := by simp [State.changeSlot]
@[simp] theorem State.changeSlot_tickets (s : State) (i : Fin 16) (r : Slot) (c : ChangeCause) : (s.changeSlot i r c).tickets = s.tickets := by simp [State.changeSlot]
@[simp] theorem State.changeSlot_quota (s : State) (i : Fin 16) (r : Slot) (c : ChangeCause) : (s.changeSlot i r c).quota = s.quota := by simp [State.changeSlot]
@[simp] theorem State.changeSlot_discard (s : State) (i : Fin 16) (r : Slot) (c : ChangeCause) : (s.changeSlot i r c).discard = s.discard := by simp [State.changeSlot]
@[simp] theorem State.changeSlot_expired (s : State) (i : Fin 16) (r : Slot) (c : ChangeCause) : (s.changeSlot i r c).expired = s.expired := by simp [State.changeSlot]
@[simp] theorem State.changeSlot_queues (s : State) (i : Fin 16) (r : Slot) (c : ChangeCause) : (s.changeSlot i r c).queues = s.queues := by simp [State.changeSlot]
@[simp] theorem State.changeSlot_flushed (s : State) (i : Fin 16) (r : Slot) (c : ChangeCause) : (s.changeSlot i r c).flushed = s.flushed := by simp [State.changeSlot]
@[simp] theorem State.changeSlot_probes (s : State) (i : Fin 16) (r : Slot) (c : ChangeCause) : (s.changeSlot i r c).probes = s.probes := by simp [State.changeSlot]
@[simp] theorem State.changeSlot_pointer (s : State) (i : Fin 16) (r : Slot) (c : ChangeCause) : (s.changeSlot i r c).pointer = s.pointer := by simp [State.changeSlot]
@[simp] theorem State.changeSlot_bpc (s : State) (i : Fin 16) (r : Slot) (c : ChangeCause) : (s.changeSlot i r c).bpc = s.bpc := by simp [State.changeSlot]
@[simp] theorem State.changeSlot_timeoutSel (s : State) (i : Fin 16) (r : Slot) (c : ChangeCause) : (s.changeSlot i r c).timeoutSel = s.timeoutSel := by simp [State.changeSlot]
@[simp] theorem State.changeSlot_bus (s : State) (i : Fin 16) (r : Slot) (c : ChangeCause) : (s.changeSlot i r c).bus = s.bus := by simp [State.changeSlot]
@[simp] theorem State.changeSlot_faultLimit (s : State) (i : Fin 16) (r : Slot) (c : ChangeCause) : (s.changeSlot i r c).faultLimit = s.faultLimit := by simp [State.changeSlot]
@[simp] theorem State.changeSlot_lease (s : State) (i : Fin 16) (r : Slot) (c : ChangeCause) : (s.changeSlot i r c).lease = s.lease := by simp [State.changeSlot]
@[simp] theorem State.changeSlot_free (s : State) (i : Fin 16) (r : Slot) (c : ChangeCause) : (s.changeSlot i r c).free = s.free := by simp [State.changeSlot]
@[simp] theorem State.changeSlot_pending (s : State) (i : Fin 16) (r : Slot) (c : ChangeCause) : (s.changeSlot i r c).pending = s.pending := by simp [State.changeSlot]

/-! `reportFailure` writes slots, ports, kinds at most. -/

@[simp] theorem State.reportFailure_now (s : State) (i : Fin 16) (f : Failure) (p : Bool) : (s.reportFailure i f p).now = s.now := by
  unfold State.reportFailure; dsimp only; split <;> simp
@[simp] theorem State.reportFailure_resetPin (s : State) (i : Fin 16) (f : Failure) (p : Bool) : (s.reportFailure i f p).resetPin = s.resetPin := by
  unfold State.reportFailure; dsimp only; split <;> simp
@[simp] theorem State.reportFailure_losPin (s : State) (i : Fin 16) (f : Failure) (p : Bool) : (s.reportFailure i f p).losPin = s.losPin := by
  unfold State.reportFailure; dsimp only; split <;> simp
@[simp] theorem State.reportFailure_alertPin (s : State) (i : Fin 16) (f : Failure) (p : Bool) : (s.reportFailure i f p).alertPin = s.alertPin := by
  unfold State.reportFailure; dsimp only; split <;> simp
@[simp] theorem State.reportFailure_adm (s : State) (i : Fin 16) (f : Failure) (p : Bool) : (s.reportFailure i f p).adm = s.adm := by
  unfold State.reportFailure; dsimp only; split <;> simp
@[simp] theorem State.reportFailure_active (s : State) (i : Fin 16) (f : Failure) (p : Bool) : (s.reportFailure i f p).active = s.active := by
  unfold State.reportFailure; dsimp only; split <;> simp
@[simp] theorem State.reportFailure_staging (s : State) (i : Fin 16) (f : Failure) (p : Bool) : (s.reportFailure i f p).staging = s.staging := by
  unfold State.reportFailure; dsimp only; split <;> simp
@[simp] theorem State.reportFailure_locks (s : State) (i : Fin 16) (f : Failure) (p : Bool) : (s.reportFailure i f p).locks = s.locks := by
  unfold State.reportFailure; dsimp only; split <;> simp
@[simp] theorem State.reportFailure_tickets (s : State) (i : Fin 16) (f : Failure) (p : Bool) : (s.reportFailure i f p).tickets = s.tickets := by
  unfold State.reportFailure; dsimp only; split <;> simp
@[simp] theorem State.reportFailure_quota (s : State) (i : Fin 16) (f : Failure) (p : Bool) : (s.reportFailure i f p).quota = s.quota := by
  unfold State.reportFailure; dsimp only; split <;> simp
@[simp] theorem State.reportFailure_discard (s : State) (i : Fin 16) (f : Failure) (p : Bool) : (s.reportFailure i f p).discard = s.discard := by
  unfold State.reportFailure; dsimp only; split <;> simp
@[simp] theorem State.reportFailure_expired (s : State) (i : Fin 16) (f : Failure) (p : Bool) : (s.reportFailure i f p).expired = s.expired := by
  unfold State.reportFailure; dsimp only; split <;> simp
@[simp] theorem State.reportFailure_queues (s : State) (i : Fin 16) (f : Failure) (p : Bool) : (s.reportFailure i f p).queues = s.queues := by
  unfold State.reportFailure; dsimp only; split <;> simp
@[simp] theorem State.reportFailure_flushed (s : State) (i : Fin 16) (f : Failure) (p : Bool) : (s.reportFailure i f p).flushed = s.flushed := by
  unfold State.reportFailure; dsimp only; split <;> simp
@[simp] theorem State.reportFailure_probes (s : State) (i : Fin 16) (f : Failure) (p : Bool) : (s.reportFailure i f p).probes = s.probes := by
  unfold State.reportFailure; dsimp only; split <;> simp
@[simp] theorem State.reportFailure_pointer (s : State) (i : Fin 16) (f : Failure) (p : Bool) : (s.reportFailure i f p).pointer = s.pointer := by
  unfold State.reportFailure; dsimp only; split <;> simp
@[simp] theorem State.reportFailure_bpc (s : State) (i : Fin 16) (f : Failure) (p : Bool) : (s.reportFailure i f p).bpc = s.bpc := by
  unfold State.reportFailure; dsimp only; split <;> simp
@[simp] theorem State.reportFailure_timeoutSel (s : State) (i : Fin 16) (f : Failure) (p : Bool) : (s.reportFailure i f p).timeoutSel = s.timeoutSel := by
  unfold State.reportFailure; dsimp only; split <;> simp
@[simp] theorem State.reportFailure_bus (s : State) (i : Fin 16) (f : Failure) (p : Bool) : (s.reportFailure i f p).bus = s.bus := by
  unfold State.reportFailure; dsimp only; split <;> simp
@[simp] theorem State.reportFailure_faultLimit (s : State) (i : Fin 16) (f : Failure) (p : Bool) : (s.reportFailure i f p).faultLimit = s.faultLimit := by
  unfold State.reportFailure; dsimp only; split <;> simp
@[simp] theorem State.reportFailure_lease (s : State) (i : Fin 16) (f : Failure) (p : Bool) : (s.reportFailure i f p).lease = s.lease := by
  unfold State.reportFailure; dsimp only; split <;> simp
@[simp] theorem State.reportFailure_free (s : State) (i : Fin 16) (f : Failure) (p : Bool) : (s.reportFailure i f p).free = s.free := by
  unfold State.reportFailure; dsimp only; split <;> simp
@[simp] theorem State.reportFailure_pending (s : State) (i : Fin 16) (f : Failure) (p : Bool) : (s.reportFailure i f p).pending = s.pending := by
  unfold State.reportFailure; dsimp only; split <;> simp

/-! `reportAccepted` writes slots at most. -/

@[simp] theorem State.reportAccepted_now (s : State) (i : Fin 16) : (s.reportAccepted i).now = s.now := rfl
@[simp] theorem State.reportAccepted_resetPin (s : State) (i : Fin 16) : (s.reportAccepted i).resetPin = s.resetPin := rfl
@[simp] theorem State.reportAccepted_losPin (s : State) (i : Fin 16) : (s.reportAccepted i).losPin = s.losPin := rfl
@[simp] theorem State.reportAccepted_alertPin (s : State) (i : Fin 16) : (s.reportAccepted i).alertPin = s.alertPin := rfl
@[simp] theorem State.reportAccepted_ports (s : State) (i : Fin 16) : (s.reportAccepted i).ports = s.ports := rfl
@[simp] theorem State.reportAccepted_adm (s : State) (i : Fin 16) : (s.reportAccepted i).adm = s.adm := rfl
@[simp] theorem State.reportAccepted_active (s : State) (i : Fin 16) : (s.reportAccepted i).active = s.active := rfl
@[simp] theorem State.reportAccepted_staging (s : State) (i : Fin 16) : (s.reportAccepted i).staging = s.staging := rfl
@[simp] theorem State.reportAccepted_locks (s : State) (i : Fin 16) : (s.reportAccepted i).locks = s.locks := rfl
@[simp] theorem State.reportAccepted_tickets (s : State) (i : Fin 16) : (s.reportAccepted i).tickets = s.tickets := rfl
@[simp] theorem State.reportAccepted_quota (s : State) (i : Fin 16) : (s.reportAccepted i).quota = s.quota := rfl
@[simp] theorem State.reportAccepted_discard (s : State) (i : Fin 16) : (s.reportAccepted i).discard = s.discard := rfl
@[simp] theorem State.reportAccepted_expired (s : State) (i : Fin 16) : (s.reportAccepted i).expired = s.expired := rfl
@[simp] theorem State.reportAccepted_queues (s : State) (i : Fin 16) : (s.reportAccepted i).queues = s.queues := rfl
@[simp] theorem State.reportAccepted_flushed (s : State) (i : Fin 16) : (s.reportAccepted i).flushed = s.flushed := rfl
@[simp] theorem State.reportAccepted_probes (s : State) (i : Fin 16) : (s.reportAccepted i).probes = s.probes := rfl
@[simp] theorem State.reportAccepted_pointer (s : State) (i : Fin 16) : (s.reportAccepted i).pointer = s.pointer := rfl
@[simp] theorem State.reportAccepted_bpc (s : State) (i : Fin 16) : (s.reportAccepted i).bpc = s.bpc := rfl
@[simp] theorem State.reportAccepted_timeoutSel (s : State) (i : Fin 16) : (s.reportAccepted i).timeoutSel = s.timeoutSel := rfl
@[simp] theorem State.reportAccepted_bus (s : State) (i : Fin 16) : (s.reportAccepted i).bus = s.bus := rfl
@[simp] theorem State.reportAccepted_faultLimit (s : State) (i : Fin 16) : (s.reportAccepted i).faultLimit = s.faultLimit := rfl
@[simp] theorem State.reportAccepted_kinds (s : State) (i : Fin 16) : (s.reportAccepted i).kinds = s.kinds := rfl
@[simp] theorem State.reportAccepted_lease (s : State) (i : Fin 16) : (s.reportAccepted i).lease = s.lease := rfl
@[simp] theorem State.reportAccepted_free (s : State) (i : Fin 16) : (s.reportAccepted i).free = s.free := rfl
@[simp] theorem State.reportAccepted_pending (s : State) (i : Fin 16) : (s.reportAccepted i).pending = s.pending := rfl

/-! `probeResult` writes slots, ports, kinds at most. -/

@[simp] theorem State.probeResult_now (s : State) (i : Fin 16) (x : Option (BitVec 32)) : (s.probeResult i x).now = s.now := by
  unfold State.probeResult; split
  · split <;> simp
  · rfl
@[simp] theorem State.probeResult_resetPin (s : State) (i : Fin 16) (x : Option (BitVec 32)) : (s.probeResult i x).resetPin = s.resetPin := by
  unfold State.probeResult; split
  · split <;> simp
  · rfl
@[simp] theorem State.probeResult_losPin (s : State) (i : Fin 16) (x : Option (BitVec 32)) : (s.probeResult i x).losPin = s.losPin := by
  unfold State.probeResult; split
  · split <;> simp
  · rfl
@[simp] theorem State.probeResult_alertPin (s : State) (i : Fin 16) (x : Option (BitVec 32)) : (s.probeResult i x).alertPin = s.alertPin := by
  unfold State.probeResult; split
  · split <;> simp
  · rfl
@[simp] theorem State.probeResult_adm (s : State) (i : Fin 16) (x : Option (BitVec 32)) : (s.probeResult i x).adm = s.adm := by
  unfold State.probeResult; split
  · split <;> simp
  · rfl
@[simp] theorem State.probeResult_active (s : State) (i : Fin 16) (x : Option (BitVec 32)) : (s.probeResult i x).active = s.active := by
  unfold State.probeResult; split
  · split <;> simp
  · rfl
@[simp] theorem State.probeResult_staging (s : State) (i : Fin 16) (x : Option (BitVec 32)) : (s.probeResult i x).staging = s.staging := by
  unfold State.probeResult; split
  · split <;> simp
  · rfl
@[simp] theorem State.probeResult_locks (s : State) (i : Fin 16) (x : Option (BitVec 32)) : (s.probeResult i x).locks = s.locks := by
  unfold State.probeResult; split
  · split <;> simp
  · rfl
@[simp] theorem State.probeResult_tickets (s : State) (i : Fin 16) (x : Option (BitVec 32)) : (s.probeResult i x).tickets = s.tickets := by
  unfold State.probeResult; split
  · split <;> simp
  · rfl
@[simp] theorem State.probeResult_quota (s : State) (i : Fin 16) (x : Option (BitVec 32)) : (s.probeResult i x).quota = s.quota := by
  unfold State.probeResult; split
  · split <;> simp
  · rfl
@[simp] theorem State.probeResult_discard (s : State) (i : Fin 16) (x : Option (BitVec 32)) : (s.probeResult i x).discard = s.discard := by
  unfold State.probeResult; split
  · split <;> simp
  · rfl
@[simp] theorem State.probeResult_expired (s : State) (i : Fin 16) (x : Option (BitVec 32)) : (s.probeResult i x).expired = s.expired := by
  unfold State.probeResult; split
  · split <;> simp
  · rfl
@[simp] theorem State.probeResult_queues (s : State) (i : Fin 16) (x : Option (BitVec 32)) : (s.probeResult i x).queues = s.queues := by
  unfold State.probeResult; split
  · split <;> simp
  · rfl
@[simp] theorem State.probeResult_flushed (s : State) (i : Fin 16) (x : Option (BitVec 32)) : (s.probeResult i x).flushed = s.flushed := by
  unfold State.probeResult; split
  · split <;> simp
  · rfl
@[simp] theorem State.probeResult_probes (s : State) (i : Fin 16) (x : Option (BitVec 32)) : (s.probeResult i x).probes = s.probes := by
  unfold State.probeResult; split
  · split <;> simp
  · rfl
@[simp] theorem State.probeResult_pointer (s : State) (i : Fin 16) (x : Option (BitVec 32)) : (s.probeResult i x).pointer = s.pointer := by
  unfold State.probeResult; split
  · split <;> simp
  · rfl
@[simp] theorem State.probeResult_bpc (s : State) (i : Fin 16) (x : Option (BitVec 32)) : (s.probeResult i x).bpc = s.bpc := by
  unfold State.probeResult; split
  · split <;> simp
  · rfl
@[simp] theorem State.probeResult_timeoutSel (s : State) (i : Fin 16) (x : Option (BitVec 32)) : (s.probeResult i x).timeoutSel = s.timeoutSel := by
  unfold State.probeResult; split
  · split <;> simp
  · rfl
@[simp] theorem State.probeResult_bus (s : State) (i : Fin 16) (x : Option (BitVec 32)) : (s.probeResult i x).bus = s.bus := by
  unfold State.probeResult; split
  · split <;> simp
  · rfl
@[simp] theorem State.probeResult_faultLimit (s : State) (i : Fin 16) (x : Option (BitVec 32)) : (s.probeResult i x).faultLimit = s.faultLimit := by
  unfold State.probeResult; split
  · split <;> simp
  · rfl
@[simp] theorem State.probeResult_lease (s : State) (i : Fin 16) (x : Option (BitVec 32)) : (s.probeResult i x).lease = s.lease := by
  unfold State.probeResult; split
  · split <;> simp
  · rfl
@[simp] theorem State.probeResult_free (s : State) (i : Fin 16) (x : Option (BitVec 32)) : (s.probeResult i x).free = s.free := by
  unfold State.probeResult; split
  · split <;> simp
  · rfl
@[simp] theorem State.probeResult_pending (s : State) (i : Fin 16) (x : Option (BitVec 32)) : (s.probeResult i x).pending = s.pending := by
  unfold State.probeResult; split
  · split <;> simp
  · rfl

/-! `completeRequest` writes ports, tickets at most. -/

@[simp] theorem State.completeRequest_now (s : State) (t : Fin 24) (r : Request) (m : ReplyMode) (x : Result) : (s.completeRequest t r m x).now = s.now := by cases m <;> rfl
@[simp] theorem State.completeRequest_resetPin (s : State) (t : Fin 24) (r : Request) (m : ReplyMode) (x : Result) : (s.completeRequest t r m x).resetPin = s.resetPin := by cases m <;> rfl
@[simp] theorem State.completeRequest_losPin (s : State) (t : Fin 24) (r : Request) (m : ReplyMode) (x : Result) : (s.completeRequest t r m x).losPin = s.losPin := by cases m <;> rfl
@[simp] theorem State.completeRequest_alertPin (s : State) (t : Fin 24) (r : Request) (m : ReplyMode) (x : Result) : (s.completeRequest t r m x).alertPin = s.alertPin := by cases m <;> rfl
@[simp] theorem State.completeRequest_adm (s : State) (t : Fin 24) (r : Request) (m : ReplyMode) (x : Result) : (s.completeRequest t r m x).adm = s.adm := by cases m <;> rfl
@[simp] theorem State.completeRequest_active (s : State) (t : Fin 24) (r : Request) (m : ReplyMode) (x : Result) : (s.completeRequest t r m x).active = s.active := by cases m <;> rfl
@[simp] theorem State.completeRequest_staging (s : State) (t : Fin 24) (r : Request) (m : ReplyMode) (x : Result) : (s.completeRequest t r m x).staging = s.staging := by cases m <;> rfl
@[simp] theorem State.completeRequest_locks (s : State) (t : Fin 24) (r : Request) (m : ReplyMode) (x : Result) : (s.completeRequest t r m x).locks = s.locks := by cases m <;> rfl
@[simp] theorem State.completeRequest_quota (s : State) (t : Fin 24) (r : Request) (m : ReplyMode) (x : Result) : (s.completeRequest t r m x).quota = s.quota := by cases m <;> rfl
@[simp] theorem State.completeRequest_discard (s : State) (t : Fin 24) (r : Request) (m : ReplyMode) (x : Result) : (s.completeRequest t r m x).discard = s.discard := by cases m <;> rfl
@[simp] theorem State.completeRequest_expired (s : State) (t : Fin 24) (r : Request) (m : ReplyMode) (x : Result) : (s.completeRequest t r m x).expired = s.expired := by cases m <;> rfl
@[simp] theorem State.completeRequest_queues (s : State) (t : Fin 24) (r : Request) (m : ReplyMode) (x : Result) : (s.completeRequest t r m x).queues = s.queues := by cases m <;> rfl
@[simp] theorem State.completeRequest_flushed (s : State) (t : Fin 24) (r : Request) (m : ReplyMode) (x : Result) : (s.completeRequest t r m x).flushed = s.flushed := by cases m <;> rfl
@[simp] theorem State.completeRequest_probes (s : State) (t : Fin 24) (r : Request) (m : ReplyMode) (x : Result) : (s.completeRequest t r m x).probes = s.probes := by cases m <;> rfl
@[simp] theorem State.completeRequest_pointer (s : State) (t : Fin 24) (r : Request) (m : ReplyMode) (x : Result) : (s.completeRequest t r m x).pointer = s.pointer := by cases m <;> rfl
@[simp] theorem State.completeRequest_bpc (s : State) (t : Fin 24) (r : Request) (m : ReplyMode) (x : Result) : (s.completeRequest t r m x).bpc = s.bpc := by cases m <;> rfl
@[simp] theorem State.completeRequest_timeoutSel (s : State) (t : Fin 24) (r : Request) (m : ReplyMode) (x : Result) : (s.completeRequest t r m x).timeoutSel = s.timeoutSel := by cases m <;> rfl
@[simp] theorem State.completeRequest_bus (s : State) (t : Fin 24) (r : Request) (m : ReplyMode) (x : Result) : (s.completeRequest t r m x).bus = s.bus := by cases m <;> rfl
@[simp] theorem State.completeRequest_slots (s : State) (t : Fin 24) (r : Request) (m : ReplyMode) (x : Result) : (s.completeRequest t r m x).slots = s.slots := by cases m <;> rfl
@[simp] theorem State.completeRequest_faultLimit (s : State) (t : Fin 24) (r : Request) (m : ReplyMode) (x : Result) : (s.completeRequest t r m x).faultLimit = s.faultLimit := by cases m <;> rfl
@[simp] theorem State.completeRequest_kinds (s : State) (t : Fin 24) (r : Request) (m : ReplyMode) (x : Result) : (s.completeRequest t r m x).kinds = s.kinds := by cases m <;> rfl
@[simp] theorem State.completeRequest_lease (s : State) (t : Fin 24) (r : Request) (m : ReplyMode) (x : Result) : (s.completeRequest t r m x).lease = s.lease := by cases m <;> rfl
@[simp] theorem State.completeRequest_free (s : State) (t : Fin 24) (r : Request) (m : ReplyMode) (x : Result) : (s.completeRequest t r m x).free = s.free := by cases m <;> rfl
@[simp] theorem State.completeRequest_pending (s : State) (t : Fin 24) (r : Request) (m : ReplyMode) (x : Result) : (s.completeRequest t r m x).pending = s.pending := by cases m <;> rfl

/-! `complete` writes ports, tickets at most. -/

@[simp] theorem State.complete_now (s : State) (t : Fin 24) (x : Result) : (s.complete t x).now = s.now := by
  unfold State.complete; split <;> simp
@[simp] theorem State.complete_resetPin (s : State) (t : Fin 24) (x : Result) : (s.complete t x).resetPin = s.resetPin := by
  unfold State.complete; split <;> simp
@[simp] theorem State.complete_losPin (s : State) (t : Fin 24) (x : Result) : (s.complete t x).losPin = s.losPin := by
  unfold State.complete; split <;> simp
@[simp] theorem State.complete_alertPin (s : State) (t : Fin 24) (x : Result) : (s.complete t x).alertPin = s.alertPin := by
  unfold State.complete; split <;> simp
@[simp] theorem State.complete_adm (s : State) (t : Fin 24) (x : Result) : (s.complete t x).adm = s.adm := by
  unfold State.complete; split <;> simp
@[simp] theorem State.complete_active (s : State) (t : Fin 24) (x : Result) : (s.complete t x).active = s.active := by
  unfold State.complete; split <;> simp
@[simp] theorem State.complete_staging (s : State) (t : Fin 24) (x : Result) : (s.complete t x).staging = s.staging := by
  unfold State.complete; split <;> simp
@[simp] theorem State.complete_locks (s : State) (t : Fin 24) (x : Result) : (s.complete t x).locks = s.locks := by
  unfold State.complete; split <;> simp
@[simp] theorem State.complete_quota (s : State) (t : Fin 24) (x : Result) : (s.complete t x).quota = s.quota := by
  unfold State.complete; split <;> simp
@[simp] theorem State.complete_discard (s : State) (t : Fin 24) (x : Result) : (s.complete t x).discard = s.discard := by
  unfold State.complete; split <;> simp
@[simp] theorem State.complete_expired (s : State) (t : Fin 24) (x : Result) : (s.complete t x).expired = s.expired := by
  unfold State.complete; split <;> simp
@[simp] theorem State.complete_queues (s : State) (t : Fin 24) (x : Result) : (s.complete t x).queues = s.queues := by
  unfold State.complete; split <;> simp
@[simp] theorem State.complete_flushed (s : State) (t : Fin 24) (x : Result) : (s.complete t x).flushed = s.flushed := by
  unfold State.complete; split <;> simp
@[simp] theorem State.complete_probes (s : State) (t : Fin 24) (x : Result) : (s.complete t x).probes = s.probes := by
  unfold State.complete; split <;> simp
@[simp] theorem State.complete_pointer (s : State) (t : Fin 24) (x : Result) : (s.complete t x).pointer = s.pointer := by
  unfold State.complete; split <;> simp
@[simp] theorem State.complete_bpc (s : State) (t : Fin 24) (x : Result) : (s.complete t x).bpc = s.bpc := by
  unfold State.complete; split <;> simp
@[simp] theorem State.complete_timeoutSel (s : State) (t : Fin 24) (x : Result) : (s.complete t x).timeoutSel = s.timeoutSel := by
  unfold State.complete; split <;> simp
@[simp] theorem State.complete_bus (s : State) (t : Fin 24) (x : Result) : (s.complete t x).bus = s.bus := by
  unfold State.complete; split <;> simp
@[simp] theorem State.complete_slots (s : State) (t : Fin 24) (x : Result) : (s.complete t x).slots = s.slots := by
  unfold State.complete; split <;> simp
@[simp] theorem State.complete_faultLimit (s : State) (t : Fin 24) (x : Result) : (s.complete t x).faultLimit = s.faultLimit := by
  unfold State.complete; split <;> simp
@[simp] theorem State.complete_kinds (s : State) (t : Fin 24) (x : Result) : (s.complete t x).kinds = s.kinds := by
  unfold State.complete; split <;> simp
@[simp] theorem State.complete_lease (s : State) (t : Fin 24) (x : Result) : (s.complete t x).lease = s.lease := by
  unfold State.complete; split <;> simp
@[simp] theorem State.complete_free (s : State) (t : Fin 24) (x : Result) : (s.complete t x).free = s.free := by
  unfold State.complete; split <;> simp
@[simp] theorem State.complete_pending (s : State) (t : Fin 24) (x : Result) : (s.complete t x).pending = s.pending := by
  unfold State.complete; split <;> simp

/-! `loseLease` writes lease, staging, ports, kinds at most. -/

@[simp] theorem State.loseLease_now (s : State) (l : Lease) (e : LeaseEvent) : (s.loseLease l e).now = s.now := by simp [State.loseLease]
@[simp] theorem State.loseLease_resetPin (s : State) (l : Lease) (e : LeaseEvent) : (s.loseLease l e).resetPin = s.resetPin := by simp [State.loseLease]
@[simp] theorem State.loseLease_losPin (s : State) (l : Lease) (e : LeaseEvent) : (s.loseLease l e).losPin = s.losPin := by simp [State.loseLease]
@[simp] theorem State.loseLease_alertPin (s : State) (l : Lease) (e : LeaseEvent) : (s.loseLease l e).alertPin = s.alertPin := by simp [State.loseLease]
@[simp] theorem State.loseLease_adm (s : State) (l : Lease) (e : LeaseEvent) : (s.loseLease l e).adm = s.adm := by simp [State.loseLease]
@[simp] theorem State.loseLease_active (s : State) (l : Lease) (e : LeaseEvent) : (s.loseLease l e).active = s.active := by simp [State.loseLease]
@[simp] theorem State.loseLease_locks (s : State) (l : Lease) (e : LeaseEvent) : (s.loseLease l e).locks = s.locks := by simp [State.loseLease]
@[simp] theorem State.loseLease_tickets (s : State) (l : Lease) (e : LeaseEvent) : (s.loseLease l e).tickets = s.tickets := by simp [State.loseLease]
@[simp] theorem State.loseLease_quota (s : State) (l : Lease) (e : LeaseEvent) : (s.loseLease l e).quota = s.quota := by simp [State.loseLease]
@[simp] theorem State.loseLease_discard (s : State) (l : Lease) (e : LeaseEvent) : (s.loseLease l e).discard = s.discard := by simp [State.loseLease]
@[simp] theorem State.loseLease_expired (s : State) (l : Lease) (e : LeaseEvent) : (s.loseLease l e).expired = s.expired := by simp [State.loseLease]
@[simp] theorem State.loseLease_queues (s : State) (l : Lease) (e : LeaseEvent) : (s.loseLease l e).queues = s.queues := by simp [State.loseLease]
@[simp] theorem State.loseLease_flushed (s : State) (l : Lease) (e : LeaseEvent) : (s.loseLease l e).flushed = s.flushed := by simp [State.loseLease]
@[simp] theorem State.loseLease_probes (s : State) (l : Lease) (e : LeaseEvent) : (s.loseLease l e).probes = s.probes := by simp [State.loseLease]
@[simp] theorem State.loseLease_pointer (s : State) (l : Lease) (e : LeaseEvent) : (s.loseLease l e).pointer = s.pointer := by simp [State.loseLease]
@[simp] theorem State.loseLease_bpc (s : State) (l : Lease) (e : LeaseEvent) : (s.loseLease l e).bpc = s.bpc := by simp [State.loseLease]
@[simp] theorem State.loseLease_timeoutSel (s : State) (l : Lease) (e : LeaseEvent) : (s.loseLease l e).timeoutSel = s.timeoutSel := by simp [State.loseLease]
@[simp] theorem State.loseLease_bus (s : State) (l : Lease) (e : LeaseEvent) : (s.loseLease l e).bus = s.bus := by simp [State.loseLease]
@[simp] theorem State.loseLease_slots (s : State) (l : Lease) (e : LeaseEvent) : (s.loseLease l e).slots = s.slots := by simp [State.loseLease]
@[simp] theorem State.loseLease_faultLimit (s : State) (l : Lease) (e : LeaseEvent) : (s.loseLease l e).faultLimit = s.faultLimit := by simp [State.loseLease]
@[simp] theorem State.loseLease_free (s : State) (l : Lease) (e : LeaseEvent) : (s.loseLease l e).free = s.free := by simp [State.loseLease]
@[simp] theorem State.loseLease_pending (s : State) (l : Lease) (e : LeaseEvent) : (s.loseLease l e).pending = s.pending := by simp [State.loseLease]

/-! `endFailed` writes slots, ports, kinds, tickets, bpc, bus at most. -/

@[simp] theorem State.endFailed_now (s : State) (op : Operation) (f : Failure) : (s.endFailed op f).now = s.now := by
  cases op <;> simp [State.endFailed]
  split <;> simp
@[simp] theorem State.endFailed_resetPin (s : State) (op : Operation) (f : Failure) : (s.endFailed op f).resetPin = s.resetPin := by
  cases op <;> simp [State.endFailed]
  split <;> simp
@[simp] theorem State.endFailed_losPin (s : State) (op : Operation) (f : Failure) : (s.endFailed op f).losPin = s.losPin := by
  cases op <;> simp [State.endFailed]
  split <;> simp
@[simp] theorem State.endFailed_alertPin (s : State) (op : Operation) (f : Failure) : (s.endFailed op f).alertPin = s.alertPin := by
  cases op <;> simp [State.endFailed]
  split <;> simp
@[simp] theorem State.endFailed_adm (s : State) (op : Operation) (f : Failure) : (s.endFailed op f).adm = s.adm := by
  cases op <;> simp [State.endFailed]
  split <;> simp
@[simp] theorem State.endFailed_active (s : State) (op : Operation) (f : Failure) : (s.endFailed op f).active = s.active := by
  cases op <;> simp [State.endFailed]
  split <;> simp
@[simp] theorem State.endFailed_staging (s : State) (op : Operation) (f : Failure) : (s.endFailed op f).staging = s.staging := by
  cases op <;> simp [State.endFailed]
  split <;> simp
@[simp] theorem State.endFailed_locks (s : State) (op : Operation) (f : Failure) : (s.endFailed op f).locks = s.locks := by
  cases op <;> simp [State.endFailed]
  split <;> simp
@[simp] theorem State.endFailed_quota (s : State) (op : Operation) (f : Failure) : (s.endFailed op f).quota = s.quota := by
  cases op <;> simp [State.endFailed]
  split <;> simp
@[simp] theorem State.endFailed_discard (s : State) (op : Operation) (f : Failure) : (s.endFailed op f).discard = s.discard := by
  cases op <;> simp [State.endFailed]
  split <;> simp
@[simp] theorem State.endFailed_expired (s : State) (op : Operation) (f : Failure) : (s.endFailed op f).expired = s.expired := by
  cases op <;> simp [State.endFailed]
  split <;> simp
@[simp] theorem State.endFailed_queues (s : State) (op : Operation) (f : Failure) : (s.endFailed op f).queues = s.queues := by
  cases op <;> simp [State.endFailed]
  split <;> simp
@[simp] theorem State.endFailed_flushed (s : State) (op : Operation) (f : Failure) : (s.endFailed op f).flushed = s.flushed := by
  cases op <;> simp [State.endFailed]
  split <;> simp
@[simp] theorem State.endFailed_probes (s : State) (op : Operation) (f : Failure) : (s.endFailed op f).probes = s.probes := by
  cases op <;> simp [State.endFailed]
  split <;> simp
@[simp] theorem State.endFailed_pointer (s : State) (op : Operation) (f : Failure) : (s.endFailed op f).pointer = s.pointer := by
  cases op <;> simp [State.endFailed]
  split <;> simp
@[simp] theorem State.endFailed_timeoutSel (s : State) (op : Operation) (f : Failure) : (s.endFailed op f).timeoutSel = s.timeoutSel := by
  cases op <;> simp [State.endFailed]
  split <;> simp
@[simp] theorem State.endFailed_faultLimit (s : State) (op : Operation) (f : Failure) : (s.endFailed op f).faultLimit = s.faultLimit := by
  cases op <;> simp [State.endFailed]
  split <;> simp
@[simp] theorem State.endFailed_lease (s : State) (op : Operation) (f : Failure) : (s.endFailed op f).lease = s.lease := by
  cases op <;> simp [State.endFailed]
  split <;> simp
@[simp] theorem State.endFailed_free (s : State) (op : Operation) (f : Failure) : (s.endFailed op f).free = s.free := by
  cases op <;> simp [State.endFailed]
  split <;> simp
@[simp] theorem State.endFailed_pending (s : State) (op : Operation) (f : Failure) : (s.endFailed op f).pending = s.pending := by
  cases op <;> simp [State.endFailed]
  split <;> simp

end Sys2Proof.Machine
end

