-- ==== Sys2Proof/Laws/Keeps.lean ====
section
/-! SUPPORT. What each shared operation leaves unchanged, one lemma for an operation: whatever does not depend on the fields
it writes (a field, an accessor, a predicate on fields) reads the same after it. -/

namespace Sys2Proof.Machine

theorem State.updPort_keeps {α : Type} (g : State → α)
    (hp : ∀ (s : State) (x : PerLink Port), g { s with ports := x } = g s)
    (s : State) (n : Link) (f : Port → Port) :
    g (s.updPort n f) = g s := hp s _

theorem State.form_keeps {α : Type} (g : State → α)
    (hform : ∀ (s : State) (n : Link) (f : OutFrame), g (s.form n f) = g s)
    (s : State) (n : Link) (f : OutFrame) :
    g (s.form n f) = g s := hform s n f

theorem State.report_keeps {α : Type} (g : State → α)
    (hrep : ∀ (s : State) (n : Link) (c : Nat), g (s.report n c) = g s)
    (s : State) (n : Link) (c : Nat) :
    g (s.report n c) = g s := hrep s n c

theorem State.reportCount_keeps {α : Type} (g : State → α)
    (hrep : ∀ (s : State) (n : Link) (c : Nat), g (s.report n c) = g s)
    (s : State) (n : Link) (c : Nat) :
    g (s.reportCount n c) = g s := by
  unfold State.reportCount; split
  · rfl
  · exact hrep s _ _

theorem State.emit_keeps {α : Type} (g : State → α)
    (hform : ∀ (s : State) (n : Link) (f : OutFrame), g (s.form n f) = g s)
    (hk : ∀ (s : State) (x : Vector KindRecord 8), g { s with kinds := x } = g s)
    (s : State) (k : NoticeKind) (n : Link) :
    g (s.emit k n) = g s := by
  unfold State.emit; split
  · rfl
  · split
    · exact (hk _ _).trans (hform s _ _)
    · rfl

theorem State.raise_keeps {α : Type} (g : State → α)
    (hform : ∀ (s : State) (n : Link) (f : OutFrame), g (s.form n f) = g s)
    (hk : ∀ (s : State) (x : Vector KindRecord 8), g { s with kinds := x } = g s)
    (s : State) (d : Detail) :
    g (s.raise d) = g s := by
  unfold State.raise
  rw [State.emit_keeps g hform hk, State.emit_keeps g hform hk]
  exact hk s _

theorem State.emitAll_keeps {α : Type} (g : State → α)
    (hform : ∀ (s : State) (n : Link) (f : OutFrame), g (s.form n f) = g s)
    (hk : ∀ (s : State) (x : Vector KindRecord 8), g { s with kinds := x } = g s)
    (s : State) (n : Link) :
    g (s.emitAll n) = g s := by
  simp only [State.emitAll, NoticeKind.all, List.foldl_cons, List.foldl_nil, State.emit_keeps g hform hk]

theorem State.changeSlot_keeps {α : Type} (g : State → α)
    (hsl : ∀ (s : State) (x : Vector Slot 16), g { s with slots := x } = g s)
    (hform : ∀ (s : State) (n : Link) (f : OutFrame), g (s.form n f) = g s)
    (hk : ∀ (s : State) (x : Vector KindRecord 8), g { s with kinds := x } = g s)
    (s : State) (i : Fin 16) (r : Slot) (c : ChangeCause) :
    g (s.changeSlot i r c) = g s := by
  unfold State.changeSlot
  rw [State.raise_keeps g hform hk]
  exact hsl s _

theorem State.reportFailure_keeps {α : Type} (g : State → α)
    (hsl : ∀ (s : State) (x : Vector Slot 16), g { s with slots := x } = g s)
    (hform : ∀ (s : State) (n : Link) (f : OutFrame), g (s.form n f) = g s)
    (hk : ∀ (s : State) (x : Vector KindRecord 8), g { s with kinds := x } = g s)
    (s : State) (i : Fin 16) (f : Failure) (p : Bool) :
    g (s.reportFailure i f p) = g s := by
  unfold State.reportFailure; dsimp only; split
  · exact State.changeSlot_keeps g hsl hform hk s _ _ _
  · exact hsl s _

theorem State.probeResult_keeps {α : Type} (g : State → α)
    (hsl : ∀ (s : State) (x : Vector Slot 16), g { s with slots := x } = g s)
    (hform : ∀ (s : State) (n : Link) (f : OutFrame), g (s.form n f) = g s)
    (hk : ∀ (s : State) (x : Vector KindRecord 8), g { s with kinds := x } = g s)
    (s : State) (i : Fin 16) (x : Option (BitVec 32)) :
    g (s.probeResult i x) = g s := by
  unfold State.probeResult; split
  · split <;> exact State.changeSlot_keeps g hsl hform hk s _ _ _
  · rfl

theorem State.completeRequest_keeps {α : Type} (g : State → α)
    (hform : ∀ (s : State) (n : Link) (f : OutFrame), g (s.form n f) = g s)
    (ht : ∀ (s : State) (x : Vector Ticket 24), g { s with tickets := x } = g s)
    (s : State) (t : Fin 24) (r : Request) (m : ReplyMode) (x : Result) :
    g (s.completeRequest t r m x) = g s := by
  cases m
  · exact (ht _ _).trans (hform s _ _)
  · exact ht s _

theorem State.complete_keeps {α : Type} (g : State → α)
    (hform : ∀ (s : State) (n : Link) (f : OutFrame), g (s.form n f) = g s)
    (ht : ∀ (s : State) (x : Vector Ticket 24), g { s with tickets := x } = g s)
    (s : State) (t : Fin 24) (x : Result) :
    g (s.complete t x) = g s := by
  unfold State.complete; split
  · exact State.completeRequest_keeps g hform ht s _ _ _ _
  · exact State.completeRequest_keeps g hform ht s _ _ _ _
  · exact ht s _
  · rfl
  · rfl

theorem State.loseLease_keeps {α : Type} (g : State → α)
    (hl : ∀ (s : State) (x : Option Lease), g { s with lease := x } = g s)
    (hs : ∀ (s : State) (x : Vector StagingCell 32), g { s with staging := x } = g s)
    (hform : ∀ (s : State) (n : Link) (f : OutFrame), g (s.form n f) = g s)
    (hk : ∀ (s : State) (x : Vector KindRecord 8), g { s with kinds := x } = g s)
    (s : State) (l : Lease) (e : LeaseEvent) :
    g (s.loseLease l e) = g s := by
  unfold State.loseLease
  rw [State.raise_keeps g hform hk]
  exact (hs { s with lease := none } _).trans (hl s none)

theorem State.toIdle_keeps {α : Type} (g : State → α)
    (hb : ∀ (s : State) (x : BpcState), g { s with bpc := x } = g s)
    (hbu : ∀ (s : State) (x : BusLines), g { s with bus := x } = g s)
    (s : State) :
    g (s.toIdle) = g s := (hbu { s with bpc := .idle } _).trans (hb s _)

theorem State.startSelect_keeps {α : Type} (g : State → α)
    (hb : ∀ (s : State) (x : BpcState), g { s with bpc := x } = g s)
    (hbu : ∀ (s : State) (x : BusLines), g { s with bus := x } = g s)
    (s : State) (op : Operation) :
    g (s.startSelect op) = g s := (hbu { s with bpc := .addressing op op.row s.phaseEnd } _).trans (hb s _)

theorem State.endFailed_keeps {α : Type} (g : State → α)
    (hsl : ∀ (s : State) (x : Vector Slot 16), g { s with slots := x } = g s)
    (hform : ∀ (s : State) (n : Link) (f : OutFrame), g (s.form n f) = g s)
    (hk : ∀ (s : State) (x : Vector KindRecord 8), g { s with kinds := x } = g s)
    (ht : ∀ (s : State) (x : Vector Ticket 24), g { s with tickets := x } = g s)
    (hb : ∀ (s : State) (x : BpcState), g { s with bpc := x } = g s)
    (hbu : ∀ (s : State) (x : BusLines), g { s with bus := x } = g s)
    (s : State) (op : Operation) (f : Failure) :
    g (s.endFailed op f) = g s := by
  cases op
  · simp only [State.endFailed]
    rw [State.toIdle_keeps g hb hbu, State.raise_keeps g hform hk, State.reportFailure_keeps g hsl hform hk]
  · simp only [State.endFailed]
    rw [State.toIdle_keeps g hb hbu, State.complete_keeps g hform ht]
    split
    · rw [State.raise_keeps g hform hk, State.reportFailure_keeps g hsl hform hk]
    · rw [State.reportFailure_keeps g hsl hform hk]
  · simp only [State.endFailed]
    rw [State.toIdle_keeps g hb hbu, State.probeResult_keeps g hsl hform hk]

theorem State.waitAtReceiver_keeps {α : Type} (g : State → α)
    (hfr : ∀ (s : State) (x : Nat), g { s with free := x } = g s)
    (hp : ∀ (s : State) (x : PerLink Port), g { s with ports := x } = g s)
    (s : State) (n : Link) (f : RawFrame) :
    g (s.waitAtReceiver n f) = g s := by
  unfold State.waitAtReceiver; dsimp only; split
  · exact (hp _ _).trans (hfr s _)
  · exact hfr s _

theorem State.dropFrame_keeps {α : Type} (g : State → α)
    (hform : ∀ (s : State) (n : Link) (f : OutFrame), g (s.form n f) = g s)
    (hp : ∀ (s : State) (x : PerLink Port), g { s with ports := x } = g s)
    (hk : ∀ (s : State) (x : Vector KindRecord 8), g { s with kinds := x } = g s)
    (s : State) (n : Link) (w : DropReason) :
    g (s.dropFrame n w) = g s := by
  unfold State.dropFrame
  rw [State.raise_keeps g hform hk]
  exact hp s _

theorem State.counted_keeps {α : Type} (g : State → α)
    (hp : ∀ (s : State) (x : PerLink Port), g { s with ports := x } = g s)
    (s : State) (n : Link) :
    g (s.counted n) = g s := hp s _

theorem State.refuseBusy_keeps {α : Type} (g : State → α)
    (ha : ∀ (s : State) (x : PerLink AdmCounters), g { s with adm := x } = g s)
    (hform : ∀ (s : State) (n : Link) (f : OutFrame), g (s.form n f) = g s)
    (hk : ∀ (s : State) (x : Vector KindRecord 8), g { s with kinds := x } = g s)
    (s : State) (n : Link) (tag : Byte) (a : UpAddr) (c : BusyCause) :
    g (s.refuseBusy n tag a c) = g s := by
  unfold State.refuseBusy
  rw [State.raise_keeps g hform hk]
  exact (ha _ _).trans (hform s _ _)

theorem State.allocate_keeps {α : Type} (g : State → α)
    (ht : ∀ (s : State) (x : Vector Ticket 24), g { s with tickets := x } = g s)
    (hq : ∀ (s : State) (x : PerLink (List WorkEntry)), g { s with queues := x } = g s)
    (hform : ∀ (s : State) (n : Link) (f : OutFrame), g (s.form n f) = g s)
    (s : State) (t : Fin 24) (r : Request) (d : List Byte) (h : Option Nat) :
    g (s.allocate t r d h) = g s := by
  unfold State.allocate; dsimp only; split
  · exact ((hform _ _ _).trans (hq _ _)).trans (ht s _)
  · exact (hq _ _).trans (ht s _)

theorem State.admitTicketed_keeps {α : Type} (g : State → α)
    (ha : ∀ (s : State) (x : PerLink AdmCounters), g { s with adm := x } = g s)
    (hk : ∀ (s : State) (x : Vector KindRecord 8), g { s with kinds := x } = g s)
    (ht : ∀ (s : State) (x : Vector Ticket 24), g { s with tickets := x } = g s)
    (hq : ∀ (s : State) (x : PerLink (List WorkEntry)), g { s with queues := x } = g s)
    (hform : ∀ (s : State) (n : Link) (f : OutFrame), g (s.form n f) = g s)
    (s : State) (w : WindowRecord) (r : Request) (d : List Byte) :
    g (s.admitTicketed w r d) = g s := by
  unfold State.admitTicketed
  repeat' split
  · exact State.refuseBusy_keeps g ha hform hk s _ _ _ _
  · exact State.refuseBusy_keeps g ha hform hk s _ _ _ _
  · exact State.refuseBusy_keeps g ha hform hk s _ _ _ _
  · exact State.allocate_keeps g ht hq hform s _ _ _ _

theorem State.ticketedRequest_keeps {α : Type} (g : State → α)
    (ha : ∀ (s : State) (x : PerLink AdmCounters), g { s with adm := x } = g s)
    (hk : ∀ (s : State) (x : Vector KindRecord 8), g { s with kinds := x } = g s)
    (ht : ∀ (s : State) (x : Vector Ticket 24), g { s with tickets := x } = g s)
    (hq : ∀ (s : State) (x : PerLink (List WorkEntry)), g { s with queues := x } = g s)
    (hform : ∀ (s : State) (n : Link) (f : OutFrame), g (s.form n f) = g s)
    (s : State) (n : Link) (tag : Byte) (o : TicketOp) (a : UpAddr) (l : Nat) (d : List Byte) :
    g (s.ticketedRequest n tag o a l d) = g s := by
  unfold State.ticketedRequest; split
  · exact hform s _ _
  · exact State.admitTicketed_keeps g ha hk ht hq hform s _ _ _

theorem State.dropPosted_keeps {α : Type} (g : State → α)
    (ha : ∀ (s : State) (x : PerLink AdmCounters), g { s with adm := x } = g s)
    (hk : ∀ (s : State) (x : Vector KindRecord 8), g { s with kinds := x } = g s)
    (hform : ∀ (s : State) (n : Link) (f : OutFrame), g (s.form n f) = g s)
    (hrep : ∀ (s : State) (n : Link) (c : Nat), g (s.report n c) = g s)
    (s : State) (n : Link) (a : UpAddr) (w : FailReason) :
    g (s.dropPosted n a w) = g s := by
  unfold State.dropPosted
  rw [State.report_keeps g hrep, State.raise_keeps g hform hk]
  exact ha s _

theorem State.postedRequest_keeps {α : Type} (g : State → α)
    (ha : ∀ (s : State) (x : PerLink AdmCounters), g { s with adm := x } = g s)
    (hk : ∀ (s : State) (x : Vector KindRecord 8), g { s with kinds := x } = g s)
    (hq : ∀ (s : State) (x : PerLink (List WorkEntry)), g { s with queues := x } = g s)
    (hform : ∀ (s : State) (n : Link) (f : OutFrame), g (s.form n f) = g s)
    (hrep : ∀ (s : State) (n : Link) (c : Nat), g (s.report n c) = g s)
    (s : State) (n : Link) (a : UpAddr) (l : Nat) (d : List Byte) :
    g (s.postedRequest n a l d) = g s := by
  unfold State.postedRequest; split
  · exact State.dropPosted_keeps g ha hk hform hrep s _ _ _
  · exact hq s _

theorem State.creditOverrun_keeps {α : Type} (g : State → α)
    (hform : ∀ (s : State) (n : Link) (f : OutFrame), g (s.form n f) = g s)
    (hp : ∀ (s : State) (x : PerLink Port), g { s with ports := x } = g s)
    (hk : ∀ (s : State) (x : Vector KindRecord 8), g { s with kinds := x } = g s)
    (s : State) (n : Link) :
    g (s.creditOverrun n) = g s := by
  unfold State.creditOverrun
  rw [State.raise_keeps g hform hk]
  exact hp s _

theorem State.creditedWrite_keeps {α : Type} (g : State → α)
    (ha : ∀ (s : State) (x : PerLink AdmCounters), g { s with adm := x } = g s)
    (hk : ∀ (s : State) (x : Vector KindRecord 8), g { s with kinds := x } = g s)
    (hq : ∀ (s : State) (x : PerLink (List WorkEntry)), g { s with queues := x } = g s)
    (hform : ∀ (s : State) (n : Link) (f : OutFrame), g (s.form n f) = g s)
    (hrep : ∀ (s : State) (n : Link) (c : Nat), g (s.report n c) = g s)
    (hp : ∀ (s : State) (x : PerLink Port), g { s with ports := x } = g s)
    (s : State) (n : Link) (a : UpAddr) (l : Nat) (d : List Byte) :
    g (s.creditedWrite n a l d) = g s := by
  unfold State.creditedWrite; split
  · exact State.creditOverrun_keeps g hform hp hk s _
  · rw [State.postedRequest_keeps g ha hk hq hform hrep]
    exact hp s _

theorem State.claimTicket_keeps {α : Type} (g : State → α)
    (hform : ∀ (s : State) (n : Link) (f : OutFrame), g (s.form n f) = g s)
    (ht : ∀ (s : State) (x : Vector Ticket 24), g { s with tickets := x } = g s)
    (s : State) (n : Link) (tag : Byte) (t : Fin 24) :
    g (s.claimTicket n tag t) = g s := by
  unfold State.claimTicket State.answerNoTicket
  repeat' split
  all_goals first | exact hform s _ _ | exact (ht _ _).trans (hform s _ _)

theorem State.cancelTicket_keeps {α : Type} (g : State → α)
    (hform : ∀ (s : State) (n : Link) (f : OutFrame), g (s.form n f) = g s)
    (ht : ∀ (s : State) (x : Vector Ticket 24), g { s with tickets := x } = g s)
    (hq : ∀ (s : State) (x : PerLink (List WorkEntry)), g { s with queues := x } = g s)
    (s : State) (n : Link) (tag : Byte) (t : Fin 24) :
    g (s.cancelTicket n tag t) = g s := by
  unfold State.cancelTicket State.answerNoTicket
  repeat' split
  all_goals first | exact hform s _ _ | exact (hform _ _ _).trans (ht s _) | exact ((hform _ _ _).trans (ht _ _)).trans (hq s _)

theorem State.atTimerEnd_keeps {α : Type} (g : State → α)
    (hnow : ∀ (s : State) (x : Nat), g { s with now := x } = g s)
    (s : State) (e : Nat) (f : State → State) (hf : g (f (s.toward e)) = g (s.toward e)) :
    g (s.atTimerEnd e f) = g s := by
  unfold State.atTimerEnd; split
  · exact hf.trans (hnow s _)
  · rfl

theorem State.expireReady_keeps {α : Type} (g : State → α)
    (ht : ∀ (s : State) (x : Vector Ticket 24), g { s with tickets := x } = g s)
    (he : ∀ (s : State) (x : Counter), g { s with expired := x } = g s)
    (hform : ∀ (s : State) (n : Link) (f : OutFrame), g (s.form n f) = g s)
    (hk : ∀ (s : State) (x : Vector KindRecord 8), g { s with kinds := x } = g s)
    (s : State) (t : Fin 24) (r : Request) :
    g (s.expireReady t r) = g s := by
  unfold State.expireReady
  rw [State.raise_keeps g hform hk]
  exact (he _ _).trans (ht s _)

theorem State.expireHold_keeps {α : Type} (g : State → α)
    (hform : ∀ (s : State) (n : Link) (f : OutFrame), g (s.form n f) = g s)
    (ht : ∀ (s : State) (x : Vector Ticket 24), g { s with tickets := x } = g s)
    (s : State) (t : Fin 24) (r : Request) (st : TicketState) :
    g (s.expireHold t r st) = g s := (ht _ _).trans (hform _ _ _)

theorem State.revokeEntry_keeps {α : Type} (g : State → α)
    (hform : ∀ (s : State) (n : Link) (f : OutFrame), g (s.form n f) = g s)
    (ht : ∀ (s : State) (x : Vector Ticket 24), g { s with tickets := x } = g s)
    (hf : ∀ (s : State) (x : PerLink Counter), g { s with flushed := x } = g s)
    (s : State) (n : Link) (e : WorkEntry) :
    g (s.revokeEntry n e) = g s := by
  cases e
  · exact hf s _
  · exact State.complete_keeps g hform ht s _ _

theorem State.revokeEntries_keeps {α : Type} (g : State → α)
    (hform : ∀ (s : State) (n : Link) (f : OutFrame), g (s.form n f) = g s)
    (ht : ∀ (s : State) (x : Vector Ticket 24), g { s with tickets := x } = g s)
    (hf : ∀ (s : State) (x : PerLink Counter), g { s with flushed := x } = g s)
    (n : Link) (es : List WorkEntry) (s : State) : g (es.foldl (fun s e => s.revokeEntry n e) s) = g s := by
  induction es generalizing s with
  | nil => rfl
  | cons e es ih => rw [List.foldl_cons, ih, State.revokeEntry_keeps g hform ht hf]

theorem State.revokeQueue_keeps {α : Type} (g : State → α)
    (hform : ∀ (s : State) (n : Link) (f : OutFrame), g (s.form n f) = g s)
    (ht : ∀ (s : State) (x : Vector Ticket 24), g { s with tickets := x } = g s)
    (hf : ∀ (s : State) (x : PerLink Counter), g { s with flushed := x } = g s)
    (hq : ∀ (s : State) (x : PerLink (List WorkEntry)), g { s with queues := x } = g s)
    (s : State) (n : Link) :
    g (s.revokeQueue n) = g s := by
  unfold State.revokeQueue; dsimp only
  rw [State.revokeEntries_keeps g hform ht hf]
  exact hq s _

theorem State.revoke_keeps {α : Type} (g : State → α)
    (hform : ∀ (s : State) (n : Link) (f : OutFrame), g (s.form n f) = g s)
    (hrep : ∀ (s : State) (n : Link) (c : Nat), g (s.report n c) = g s)
    (ht : ∀ (s : State) (x : Vector Ticket 24), g { s with tickets := x } = g s)
    (hf : ∀ (s : State) (x : PerLink Counter), g { s with flushed := x } = g s)
    (hq : ∀ (s : State) (x : PerLink (List WorkEntry)), g { s with queues := x } = g s)
    (s : State) :
    g (s.revoke) = g s := by
  unfold State.revoke; dsimp only
  rw [State.reportCount_keeps g hrep, State.reportCount_keeps g hrep, State.revokeQueue_keeps g hform ht hf hq, State.revokeQueue_keeps g hform ht hf hq]

theorem State.fence_keeps {α : Type} (g : State → α)
    (hsl : ∀ (s : State) (x : Vector Slot 16), g { s with slots := x } = g s)
    (hpr : ∀ (s : State) (x : List (Fin 16)), g { s with probes := x } = g s)
    (hform : ∀ (s : State) (n : Link) (f : OutFrame), g (s.form n f) = g s)
    (hk : ∀ (s : State) (x : Vector KindRecord 8), g { s with kinds := x } = g s)
    (s : State) (i : Fin 16) :
    g (s.fence i) = g s := by
  unfold State.fence; dsimp only; split
  · exact hsl s _
  · rw [State.changeSlot_keeps g hsl hform hk]
    exact hpr s _
  all_goals exact State.changeSlot_keeps g hsl hform hk s _ _ _

theorem State.flushTicket_keeps {α : Type} (g : State → α)
    (hform : ∀ (s : State) (n : Link) (f : OutFrame), g (s.form n f) = g s)
    (ht : ∀ (s : State) (x : Vector Ticket 24), g { s with tickets := x } = g s)
    (s : State) (t : Fin 24) :
    g (s.flushTicket t) = g s := by
  unfold State.flushTicket; split
  · exact (ht _ _).trans (hform s _ _)
  · exact (ht _ _).trans (hform s _ _)
  · rfl

theorem State.flushTickets_keeps {α : Type} (g : State → α)
    (hform : ∀ (s : State) (n : Link) (f : OutFrame), g (s.form n f) = g s)
    (ht : ∀ (s : State) (x : Vector Ticket 24), g { s with tickets := x } = g s)
    (ts : List (Fin 24)) (s : State) : g (ts.foldl State.flushTicket s) = g s := by
  induction ts generalizing s with
  | nil => rfl
  | cons t ts ih => rw [List.foldl_cons, ih, State.flushTicket_keeps g hform ht]

theorem State.flushDirect_keeps {α : Type} (g : State → α)
    (hform : ∀ (s : State) (n : Link) (f : OutFrame), g (s.form n f) = g s)
    (ht : ∀ (s : State) (x : Vector Ticket 24), g { s with tickets := x } = g s)
    (s : State) :
    g (s.flushDirect) = g s := State.flushTickets_keeps g hform ht _ s

theorem State.emptyQueue_keeps {α : Type} (g : State → α)
    (hrep : ∀ (s : State) (n : Link) (c : Nat), g (s.report n c) = g s)
    (hf : ∀ (s : State) (x : PerLink Counter), g { s with flushed := x } = g s)
    (hq : ∀ (s : State) (x : PerLink (List WorkEntry)), g { s with queues := x } = g s)
    (s : State) (n : Link) :
    g (s.emptyQueue n) = g s := by
  unfold State.emptyQueue; dsimp only
  rw [State.reportCount_keeps g hrep]
  exact (hq _ _).trans (hf s _)

theorem State.resetWork_keeps {α : Type} (g : State → α)
    (ht : ∀ (s : State) (x : Vector Ticket 24), g { s with tickets := x } = g s)
    (hrep : ∀ (s : State) (n : Link) (c : Nat), g (s.report n c) = g s)
    (hf : ∀ (s : State) (x : PerLink Counter), g { s with flushed := x } = g s)
    (hq : ∀ (s : State) (x : PerLink (List WorkEntry)), g { s with queues := x } = g s)
    (s : State) :
    g (s.resetWork) = g s := by
  unfold State.resetWork
  rw [State.emptyQueue_keeps g hrep hf hq, State.emptyQueue_keeps g hrep hf hq]
  exact ht s _

theorem State.returnProbe_keeps {α : Type} (g : State → α)
    (hsl : ∀ (s : State) (x : Vector Slot 16), g { s with slots := x } = g s)
    (hform : ∀ (s : State) (n : Link) (f : OutFrame), g (s.form n f) = g s)
    (hk : ∀ (s : State) (x : Vector KindRecord 8), g { s with kinds := x } = g s)
    (s : State) (i : Fin 16) :
    g (s.returnProbe i) = g s := by
  unfold State.returnProbe; split
  · exact State.changeSlot_keeps g hsl hform hk s _ _ _
  · rfl

theorem State.returnProbes_keeps {α : Type} (g : State → α)
    (hsl : ∀ (s : State) (x : Vector Slot 16), g { s with slots := x } = g s)
    (hform : ∀ (s : State) (n : Link) (f : OutFrame), g (s.form n f) = g s)
    (hk : ∀ (s : State) (x : Vector KindRecord 8), g { s with kinds := x } = g s)
    (is : List (Fin 16)) (s : State) : g (is.foldl State.returnProbe s) = g s := by
  induction is generalizing s with
  | nil => rfl
  | cons i is ih => rw [List.foldl_cons, ih, State.returnProbe_keeps g hsl hform hk]

theorem State.resetProbes_keeps {α : Type} (g : State → α)
    (hpr : ∀ (s : State) (x : List (Fin 16)), g { s with probes := x } = g s)
    (hsl : ∀ (s : State) (x : Vector Slot 16), g { s with slots := x } = g s)
    (hform : ∀ (s : State) (n : Link) (f : OutFrame), g (s.form n f) = g s)
    (hk : ∀ (s : State) (x : Vector KindRecord 8), g { s with kinds := x } = g s)
    (s : State) :
    g (s.resetProbes) = g s := by
  unfold State.resetProbes
  rw [State.returnProbes_keeps g hsl hform hk]
  exact hpr s _

theorem State.gateReset_keeps {α : Type} (g : State → α)
    (hform : ∀ (s : State) (n : Link) (f : OutFrame), g (s.form n f) = g s)
    (hrep : ∀ (s : State) (n : Link) (c : Nat), g (s.report n c) = g s)
    (ht : ∀ (s : State) (x : Vector Ticket 24), g { s with tickets := x } = g s)
    (hk : ∀ (s : State) (x : Vector KindRecord 8), g { s with kinds := x } = g s)
    (hf : ∀ (s : State) (x : PerLink Counter), g { s with flushed := x } = g s)
    (hq : ∀ (s : State) (x : PerLink (List WorkEntry)), g { s with queues := x } = g s)
    (hpr : ∀ (s : State) (x : List (Fin 16)), g { s with probes := x } = g s)
    (hsl : ∀ (s : State) (x : Vector Slot 16), g { s with slots := x } = g s)
    (hpt : ∀ (s : State) (x : Source), g { s with pointer := x } = g s)
    (s : State) :
    g (s.gateReset) = g s := by
  unfold State.gateReset
  refine (hpt _ _).trans ?_
  rw [State.resetProbes_keeps g hpr hsl hform hk, State.resetWork_keeps g ht hrep hf hq]
  exact (hk _ _).trans (State.flushDirect_keeps g hform ht s)

theorem State.releaseLease_keeps {α : Type} (g : State → α)
    (hl : ∀ (s : State) (x : Option Lease), g { s with lease := x } = g s)
    (hs : ∀ (s : State) (x : Vector StagingCell 32), g { s with staging := x } = g s)
    (hform : ∀ (s : State) (n : Link) (f : OutFrame), g (s.form n f) = g s)
    (hk : ∀ (s : State) (x : Vector KindRecord 8), g { s with kinds := x } = g s)
    (s : State) (n : Link) :
    g (s.releaseLease n) = g s := by
  unfold State.releaseLease; split
  · split
    · exact State.loseLease_keeps g hl hs hform hk s _ _
    · rfl
  · rfl

theorem State.resetTickets_keeps {α : Type} (g : State → α)
    (ht : ∀ (s : State) (x : Vector Ticket 24), g { s with tickets := x } = g s)
    (hq : ∀ (s : State) (x : PerLink (List WorkEntry)), g { s with queues := x } = g s)
    (s : State) (n : Link) :
    g (s.resetTickets n) = g s := by
  have h := hq { s with tickets := Vector.ofFn fun t => s.tickets[t].linkReset n }
    (s.queues.set n ((s.queues.get n).filter (·.isPosted)))
  rw [ht] at h
  exact h

theorem State.linkReset_keeps {α : Type} (g : State → α)
    (hform : ∀ (s : State) (n : Link) (f : OutFrame), g (s.form n f) = g s)
    (hp : ∀ (s : State) (x : PerLink Port), g { s with ports := x } = g s)
    (hk : ∀ (s : State) (x : Vector KindRecord 8), g { s with kinds := x } = g s)
    (ht : ∀ (s : State) (x : Vector Ticket 24), g { s with tickets := x } = g s)
    (hq : ∀ (s : State) (x : PerLink (List WorkEntry)), g { s with queues := x } = g s)
    (hl : ∀ (s : State) (x : Option Lease), g { s with lease := x } = g s)
    (hs : ∀ (s : State) (x : Vector StagingCell 32), g { s with staging := x } = g s)
    (s : State) (n : Link) :
    g (s.linkReset n) = g s := by
  unfold State.linkReset
  rw [State.updPort_keeps g hp, State.releaseLease_keeps g hl hs hform hk]
  rw [State.resetTickets_keeps g ht hq]
  exact ((hk _ _).trans (hp _ _)).trans (hp s _)

theorem State.bringUp_keeps {α : Type} (g : State → α)
    (hform : ∀ (s : State) (n : Link) (f : OutFrame), g (s.form n f) = g s)
    (hp : ∀ (s : State) (x : PerLink Port), g { s with ports := x } = g s)
    (hk : ∀ (s : State) (x : Vector KindRecord 8), g { s with kinds := x } = g s)
    (s : State) (n : Link) :
    g (s.bringUp n) = g s := by
  unfold State.bringUp
  rw [State.emitAll_keeps g hform hk]
  exact hp s _

theorem State.awaitBeat_keeps {α : Type} (g : State → α)
    (hb : ∀ (s : State) (x : BpcState), g { s with bpc := x } = g s)
    (hbu : ∀ (s : State) (x : BusLines), g { s with bus := x } = g s)
    (s : State) (op : Operation) (row : Option ModAddr) (i : Nat) (d : List Byte) (c : Option Nat) :
    g (s.awaitBeat op row i d c) = g s := (hbu { s with bpc := .transfer op row s.phaseEnd i d } _).trans (hb s _)

theorem State.acceptedReport_keeps {α : Type} (g : State → α)
    (hsl : ∀ (s : State) (x : Vector Slot 16), g { s with slots := x } = g s)
    (s : State) (op : Operation) :
    g (s.acceptedReport op) = g s := by
  cases op
  · exact hsl s _
  · exact hsl s _
  · rfl

theorem State.endPosted_keeps {α : Type} (g : State → α)
    (hq : ∀ (s : State) (x : PerLink (List WorkEntry)), g { s with queues := x } = g s)
    (hrep : ∀ (s : State) (n : Link) (c : Nat), g (s.report n c) = g s)
    (hb : ∀ (s : State) (x : BpcState), g { s with bpc := x } = g s)
    (hbu : ∀ (s : State) (x : BusLines), g { s with bus := x } = g s)
    (s : State) (n : Link) (e : PostedEntry) (row : Option ModAddr) :
    g (s.endPosted n e row) = g s := by
  unfold State.endPosted; split
  · dsimp only
    rw [State.awaitBeat_keeps g hb hbu, State.report_keeps g hrep]
    exact hq s _
  · exact State.toIdle_keeps g hb hbu s

theorem State.acceptWriteBeat_keeps {α : Type} (g : State → α)
    (ht : ∀ (s : State) (x : Vector Ticket 24), g { s with tickets := x } = g s)
    (hq : ∀ (s : State) (x : PerLink (List WorkEntry)), g { s with queues := x } = g s)
    (hform : ∀ (s : State) (n : Link) (f : OutFrame), g (s.form n f) = g s)
    (hrep : ∀ (s : State) (n : Link) (c : Nat), g (s.report n c) = g s)
    (hb : ∀ (s : State) (x : BpcState), g { s with bpc := x } = g s)
    (hbu : ∀ (s : State) (x : BusLines), g { s with bus := x } = g s)
    (s : State) (op : Operation) (row : Option ModAddr) (i : Nat) :
    g (s.acceptWriteBeat op row i) = g s := by
  unfold State.acceptWriteBeat; split
  · exact State.awaitBeat_keeps g hb hbu s _ _ _ _ _
  · split
    · exact State.endPosted_keeps g hq hrep hb hbu s _ _ _
    · rw [State.toIdle_keeps g hb hbu, State.complete_keeps g hform ht]
    · rfl

theorem State.endRead_keeps {α : Type} (g : State → α)
    (hsl : ∀ (s : State) (x : Vector Slot 16), g { s with slots := x } = g s)
    (hform : ∀ (s : State) (n : Link) (f : OutFrame), g (s.form n f) = g s)
    (hk : ∀ (s : State) (x : Vector KindRecord 8), g { s with kinds := x } = g s)
    (ht : ∀ (s : State) (x : Vector Ticket 24), g { s with tickets := x } = g s)
    (hb : ∀ (s : State) (x : BpcState), g { s with bpc := x } = g s)
    (hbu : ∀ (s : State) (x : BusLines), g { s with bus := x } = g s)
    (s : State) (op : Operation) (d : List Byte) (l : BitVec 32) :
    g (s.endRead op d l) = g s := by
  unfold State.endRead; split
  · rw [State.toIdle_keeps g hb hbu, State.probeResult_keeps g hsl hform hk]
  · rw [State.toIdle_keeps g hb hbu, State.complete_keeps g hform ht]
  · rfl

theorem State.takeReadBeat_keeps {α : Type} (g : State → α)
    (hsl : ∀ (s : State) (x : Vector Slot 16), g { s with slots := x } = g s)
    (hform : ∀ (s : State) (n : Link) (f : OutFrame), g (s.form n f) = g s)
    (hk : ∀ (s : State) (x : Vector KindRecord 8), g { s with kinds := x } = g s)
    (ht : ∀ (s : State) (x : Vector Ticket 24), g { s with tickets := x } = g s)
    (hb : ∀ (s : State) (x : BpcState), g { s with bpc := x } = g s)
    (hbu : ∀ (s : State) (x : BusLines), g { s with bus := x } = g s)
    (s : State) (op : Operation) (row : Option ModAddr) (i : Nat) (d : List Byte) (l : BitVec 32) (p : BitVec 4) :
    g (s.takeReadBeat op row i d l p) = g s := by
  unfold State.takeReadBeat; dsimp only; split
  · split
    · exact State.awaitBeat_keeps g hb hbu s _ _ _ _ _
    · exact State.endRead_keeps g hsl hform hk ht hb hbu s _ _ _
  · exact State.endFailed_keeps g hsl hform hk ht hb hbu s _ _

theorem State.disposeHead_keeps {α : Type} (g : State → α)
    (hq : ∀ (s : State) (x : PerLink (List WorkEntry)), g { s with queues := x } = g s)
    (ht : ∀ (s : State) (x : Vector Ticket 24), g { s with tickets := x } = g s)
    (hsl : ∀ (s : State) (x : Vector Slot 16), g { s with slots := x } = g s)
    (hk : ∀ (s : State) (x : Vector KindRecord 8), g { s with kinds := x } = g s)
    (hform : ∀ (s : State) (n : Link) (f : OutFrame), g (s.form n f) = g s)
    (hrep : ∀ (s : State) (n : Link) (c : Nat), g (s.report n c) = g s)
    (s : State) (n : Link) (e : WorkEntry) (rest : List WorkEntry) (i : Fin 16) :
    g (s.disposeHead n e rest i) = g s := by
  unfold State.disposeHead; dsimp only; split
  · rw [State.complete_keeps g hform ht]
    exact hq s _
  · rw [State.report_keeps g hrep, State.raise_keeps g hform hk]
    exact (hsl _ _).trans (hq s _)

theorem State.grantQueue_keeps {α : Type} (g : State → α)
    (hq : ∀ (s : State) (x : PerLink (List WorkEntry)), g { s with queues := x } = g s)
    (ht : ∀ (s : State) (x : Vector Ticket 24), g { s with tickets := x } = g s)
    (hrep : ∀ (s : State) (n : Link) (c : Nat), g (s.report n c) = g s)
    (hb : ∀ (s : State) (x : BpcState), g { s with bpc := x } = g s)
    (hbu : ∀ (s : State) (x : BusLines), g { s with bus := x } = g s)
    (s : State) (n : Link) :
    g (s.grantQueue n) = g s := by
  unfold State.grantQueue; split
  · rw [State.startSelect_keeps g hb hbu, State.report_keeps g hrep]
    exact hq s _
  · split
    · rw [State.startSelect_keeps g hb hbu]
      exact (ht _ _).trans (hq s _)
    · rfl
  · rfl

theorem State.grantProbe_keeps {α : Type} (g : State → α)
    (hpr : ∀ (s : State) (x : List (Fin 16)), g { s with probes := x } = g s)
    (hsl : ∀ (s : State) (x : Vector Slot 16), g { s with slots := x } = g s)
    (hb : ∀ (s : State) (x : BpcState), g { s with bpc := x } = g s)
    (hbu : ∀ (s : State) (x : BusLines), g { s with bus := x } = g s)
    (s : State) :
    g (s.grantProbe) = g s := by
  unfold State.grantProbe; split
  · rw [State.startSelect_keeps g hb hbu]
    exact (hsl _ _).trans (hpr s _)
  · rfl

theorem State.grant_keeps {α : Type} (g : State → α)
    (hpt : ∀ (s : State) (x : Source), g { s with pointer := x } = g s)
    (hpr : ∀ (s : State) (x : List (Fin 16)), g { s with probes := x } = g s)
    (hsl : ∀ (s : State) (x : Vector Slot 16), g { s with slots := x } = g s)
    (hq : ∀ (s : State) (x : PerLink (List WorkEntry)), g { s with queues := x } = g s)
    (ht : ∀ (s : State) (x : Vector Ticket 24), g { s with tickets := x } = g s)
    (hrep : ∀ (s : State) (n : Link) (c : Nat), g (s.report n c) = g s)
    (hb : ∀ (s : State) (x : BpcState), g { s with bpc := x } = g s)
    (hbu : ∀ (s : State) (x : BusLines), g { s with bus := x } = g s)
    (s : State) (src : Source) :
    g (s.grant src) = g s := by
  cases src
  · exact (State.grantQueue_keeps g hq ht hrep hb hbu _ _).trans (hpt s _)
  · exact (State.grantQueue_keeps g hq ht hrep hb hbu _ _).trans (hpt s _)
  · exact (State.grantProbe_keeps g hpr hsl hb hbu _).trans (hpt s _)

end Sys2Proof.Machine
end

