-- ==== Sys2Proof/Laws/Operands.lean ====
section
/-! SUPPORT. Operand bytes of management commands read back the values they carry, and are refused out of range. -/

namespace Sys2Proof.Machine

@[simp] theorem indexOf_byte (i : Fin 32) : indexOf (byte i.val) = some i := by revert i; decide
@[simp] theorem slotOf_byte (i : Fin 16) : slotOf (byte i.val) = some i := by revert i; decide
@[simp] theorem ticketOf_byte (t : Fin 24) : ticketOf (byte t.val) = some t := by revert t; decide
@[simp] theorem linkOf_num (n : Link) : linkOf n.num = some n := by cases n <;> decide
@[simp] theorem flagOf_flagByte (b : Bool) : flagOf (flagByte b) = some b := by cases b <;> decide
@[simp] theorem levelOf_rank (l : LockLevel) : levelOf (byte l.rank) = some l := by cases l <;> decide
@[simp] theorem discardOf_code (d : DiscardSelection) : discardOf d.code = some d := by cases d <;> decide
@[simp] theorem timeoutOf_code (x : TimeoutSelection) : timeoutOf x.code = some x := by cases x <;> decide
@[simp] theorem kindOf_number (k : NoticeKind) : kindOf k.number = some k := by cases k <;> decide
@[simp] theorem rightsOf_code (r : Rights) : rightsOf r.code = some r := by cases r <;> decide
@[simp] theorem widthOf_byte (w : Width) : widthOf (byte w.toNat) = some w := by cases w <;> decide
@[simp] theorem groupOf_link (n : Link) : groupOf 0 n.num = .ok (.link n) := by cases n <;> rfl
@[simp] theorem groupOf_slot (i : Fin 16) : groupOf 1 (byte i.val) = .ok (.slot i) := by simp [groupOf]
@[simp] theorem groupOf_gate : groupOf 2 0 = .ok .gate := rfl

theorem holdOf_byte (h : Option Nat) (hv : holdInRange h = true) : holdOf (byte (h.getD 0)) = some h := by
  cases h with
  | none => decide
  | some us =>
    simp only [holdInRange, decide_eq_true_eq] at hv
    have e : (byte us).toNat = us := by simp [byte]; omega
    have h0 : byte us ≠ 0 := by intro h; rw [h] at e; simp at e; omega
    simp only [Option.getD_some, holdOf, e]
    rw [if_neg h0, if_pos hv]

theorem indexOf_none (b : Byte) (h : 32 ≤ b.toNat) : indexOf b = none := by simp [indexOf]; omega
theorem indexOf_some (b : Byte) (h : b.toNat < 32) : ∃ i, indexOf b = some i := by simp [indexOf, h]
theorem slotOf_none (b : Byte) (h : 16 ≤ b.toNat) : slotOf b = none := by simp [slotOf]; omega
theorem ticketOf_none (b : Byte) (h : 24 ≤ b.toNat) : ticketOf b = none := by simp [ticketOf]; omega

theorem linkOf_none (b : Byte) (h : 2 ≤ b.toNat) : linkOf b = none := by
  unfold linkOf; (repeat' split) <;> simp_all

theorem flagOf_none (b : Byte) (h : 2 ≤ b.toNat) : flagOf b = none := by
  unfold flagOf; (repeat' split) <;> simp_all

theorem levelOf_none (b : Byte) (h : 3 ≤ b.toNat) : levelOf b = none := by
  unfold levelOf; (repeat' split) <;> simp_all

theorem discardOf_none (b : Byte) (h : 4 ≤ b.toNat) : discardOf b = none := by
  unfold discardOf; (repeat' split) <;> simp_all

theorem timeoutOf_none (b : Byte) (h : 3 ≤ b.toNat) : timeoutOf b = none := by
  unfold timeoutOf; (repeat' split) <;> simp_all

theorem kindOf_none (b : Byte) (h : b.toNat = 0 ∨ 9 ≤ b.toNat) : kindOf b = none := by
  unfold kindOf
  rw [List.find?_eq_none]
  intro k _
  have e : k.number.toNat ≠ b.toNat := by
    cases k <;> simp [NoticeKind.number, NoticeKind.index, byte] <;> omega
  simp only [decide_eq_true_eq]
  exact fun hx => e (by rw [hx])

end Sys2Proof.Machine
end

