-- ==== Sys2Proof/Laws/Ops.lean ====
section
/-! SUPPORT. What each shared operation does, said once: the taking of frames and of management commands, the forming of
frames, credit reports, notices, completions. -/

namespace Sys2Proof.Machine

/-! ### The taking of frames -/

theorem State.serves_iff (s : State) (n : Link) :
    s.serves n ↔ s.resetPin = false ∧ s.losPin.get n = false ∧ s.mustWait n = false ∧ (s.port n).up = true := by
  simp [State.serves, State.takesNow, and_assoc]

theorem State.arrive_takesNow (s : State) (n : Link) (f : Option RawFrame) (take : State → State)
    (h : s.takesNow n = true) : s.arrive n f take = take s := by
  simp only [State.takesNow, Bool.and_eq_true, Bool.not_eq_true'] at h
  simp [State.arrive, h.1.1, h.1.2, h.2]

theorem State.arrive_serves (s : State) (n : Link) (f : Option RawFrame) (take : State → State) (h : s.serves n) :
    s.arrive n f take = take s := s.arrive_takesNow n f take h.1

/-- Everything an arrival can do: the frame is discarded, waits, is discarded by a full receiver, or is taken. -/
theorem State.arrive_cases (s : State) (n : Link) (f : Option RawFrame) (take : State → State) :
    s.arrive n f take = s ∨ (∃ g, f = some g ∧ s.arrive n f take = s.waitAtReceiver n g) ∨
      (s.takesNow n = true ∧ s.arrive n f take = take s) := by
  by_cases h : s.takesNow n = true
  · exact .inr (.inr ⟨h, s.arrive_takesNow n f take h⟩)
  · simp only [State.takesNow, Bool.and_eq_true, Bool.not_eq_true'] at h
    unfold State.arrive
    split
    · exact .inl rfl
    · split
      · cases f with
        | none => exact .inl rfl
        | some g => exact .inr (.inl ⟨g, rfl, rfl⟩)
      · simp_all

theorem State.dispatch_up (s : State) (n : Link) (act : State → State) (h : (s.port n).up = true) :
    s.dispatch n act = act (s.counted n) := by
  simp only [State.dispatch, h, if_true]; rfl

theorem State.dispatch_down (s : State) (n : Link) (act : State → State) (h : (s.port n).up = false) :
    s.dispatch n act =
      { s with ports := s.ports.set n { s.port n with downDrops := rise (s.port n).downDrops } } := by
  unfold State.dispatch; rw [if_neg (by simp [h])]; rfl

theorem State.counted_port (s : State) (n m : Link) :
    (s.counted n).port m =
      if m = n then { s.port n with framesTaken := rise (s.port n).framesTaken } else s.port m :=
  PerLink.get_set _ _ _ _

@[simp] theorem State.counted_up (s : State) (n m : Link) : ((s.counted n).port m).up = (s.port m).up := by
  rw [State.counted_port]; split <;> simp_all

theorem State.form_sent (s : State) (n : Link) (f : OutFrame) (h : (s.port n).up = true) :
    s.form n f = s.sent n [f] := by
  have h' : (s.ports.get n).up = true := h
  simp [State.form, State.updPort, Port.form, State.sent, h']

theorem State.form_offered (s : State) (n : Link) (f : OutFrame) : s.form n f = s.offered n [f] := by
  by_cases h : (s.ports.get n).up = true <;> simp [State.form, State.updPort, Port.form, State.sent, State.offered, h]

theorem State.counted_sent (s : State) (n : Link) (fs : List OutFrame) : (s.counted n).sent n fs = s.answered n fs := by
  simp [State.counted, State.sent, State.answered]

theorem State.sent_sent (s : State) (n : Link) (fs gs : List OutFrame) : (s.sent n fs).sent n gs = s.sent n (fs ++ gs) := by
  simp [State.sent]

/-! ### The taking of management commands -/

/-- A management frame of a known command that is served: the checks of R159, the owner's part, the reply. -/
theorem State.manage_serves (s : State) (n : Link) (tag code : Byte) (count : Nat) (lease : Bool) (ops : List Byte)
    (owner : List Byte → State → MgmtAnswer) (f : Option RawFrame) (h : s.serves n) :
    (s.arrive n f fun s => s.manage n tag code count lease ops owner) =
      ((s.counted n).checked n count lease ops owner).reply n tag code := by
  rw [s.arrive_serves n f _ h, State.manage, s.dispatch_up n _ h.2]

theorem State.checked_length (s : State) (n : Link) (count : Nat) (lease : Bool) (ops : List Byte)
    (owner : List Byte → State → MgmtAnswer) (h : ops.length ≠ count) :
    s.checked n count lease ops owner = s.refuse .badValue := by
  simp [State.checked, h]

theorem State.checked_notOwner (s : State) (n : Link) (count : Nat) (ops : List Byte)
    (owner : List Byte → State → MgmtAnswer) (h : ops.length = count) (hl : s.holdsLease n = false) :
    s.checked n count true ops owner = s.refuse .notOwner := by
  simp [State.checked, h, hl]

theorem State.checked_owner (s : State) (n : Link) (count : Nat) (lease : Bool) (ops : List Byte)
    (owner : List Byte → State → MgmtAnswer) (h : ops.length = count) (hl : lease = true → s.holdsLease n = true) :
    s.checked n count lease ops owner = owner ops s := by
  cases lease <;> simp_all [State.checked]

@[simp] theorem State.counted_holdsLease (s : State) (n m : Link) : (s.counted n).holdsLease m = s.holdsLease m := rfl

/-- The reply to a command whose answer leaves the link UP. -/
theorem MgmtAnswer.reply_up (a : MgmtAnswer) (n : Link) (tag code : Byte) (h : (a.state.port n).up = true) :
    a.reply n tag code = a.state.sent n [.mgmtReply tag code a.status a.results] :=
  State.form_sent _ _ _ h

/-- A refused command changes nothing but the port that answers (R159, R160). -/
theorem State.refuse_reply (s : State) (n : Link) (tag code : Byte) (st : Status) (h : (s.port n).up = true) :
    ((s.counted n).refuse st).reply n tag code = s.replied n tag code st [] := by
  rw [MgmtAnswer.reply_up _ _ _ _ (by simpa [State.refuse] using h)]
  exact s.counted_sent n _

/-! ### Management commands that are served -/

/-- A served management command whose owner's part gives an answer with the port UP: the answer's state with the reply. -/
theorem State.manage_next (s : State) (n : Link) (tag code : Byte) (count : Nat) (lease : Bool) (ops : List Byte)
    (owner : List Byte → State → MgmtAnswer) (f : Option RawFrame) (h : s.serves n) (hlen : ops.length = count)
    (hl : lease = true → s.holdsLease n = true) (st : Status) (rs : List Byte) (t : State)
    (ho : owner ops (s.counted n) = ⟨st, rs, t⟩) (hup : (t.port n).up = true) :
    (s.arrive n f fun s => s.manage n tag code count lease ops owner) = t.sent n [.mgmtReply tag code st rs] := by
  rw [s.manage_serves n tag code count lease ops owner f h,
    State.checked_owner _ _ _ _ _ _ hlen (by simpa using hl), ho, MgmtAnswer.reply_up _ _ _ _ hup]

/-- A served management command whose owner's part changes nothing. -/
theorem State.manage_replied (s : State) (n : Link) (tag code : Byte) (count : Nat) (lease : Bool) (ops : List Byte)
    (owner : List Byte → State → MgmtAnswer) (f : Option RawFrame) (h : s.serves n) (hlen : ops.length = count)
    (hl : lease = true → s.holdsLease n = true) (st : Status) (rs : List Byte)
    (ho : owner ops (s.counted n) = ⟨st, rs, s.counted n⟩) :
    (s.arrive n f fun s => s.manage n tag code count lease ops owner) = s.replied n tag code st rs := by
  rw [s.manage_next n tag code count lease ops owner f h hlen hl st rs _ ho (by simpa using h.2)]
  exact s.counted_sent n _

/-- A served management command with operand bytes of the wrong number (R159). -/
theorem State.manage_badLength (s : State) (n : Link) (tag code : Byte) (count : Nat) (lease : Bool) (ops : List Byte)
    (owner : List Byte → State → MgmtAnswer) (f : Option RawFrame) (h : s.serves n) (hl : ops.length ≠ count) :
    (s.arrive n f fun s => s.manage n tag code count lease ops owner) = s.replied n tag code .badValue [] := by
  rw [State.manage_serves _ _ _ _ _ _ _ _ _ h, State.checked_length _ _ _ _ _ _ hl, State.refuse_reply _ _ _ _ _ h.2]

/-- A served management command that needs the lease, from a link that does not hold it (R159, R161). -/
theorem State.manage_notOwner (s : State) (n : Link) (tag code : Byte) (count : Nat) (ops : List Byte)
    (owner : List Byte → State → MgmtAnswer) (f : Option RawFrame) (h : s.serves n) (hl : ops.length = count)
    (ho : s.holdsLease n = false) :
    (s.arrive n f fun s => s.manage n tag code count true ops owner) = s.replied n tag code .notOwner [] := by
  rw [State.manage_serves _ _ _ _ _ _ _ _ _ h, State.checked_notOwner _ _ _ _ _ hl (by simpa using ho),
    State.refuse_reply _ _ _ _ _ h.2]

/-! ### Served requests and events -/

/-- A served frame other than HELLO: its owner acts on the state in which the frame is counted. -/
theorem State.dispatch_serves (s : State) (n : Link) (f : Option RawFrame) (act : State → State) (h : s.serves n) :
    (s.arrive n f fun s => s.dispatch n act) = act (s.counted n) := by
  rw [State.arrive_serves _ _ _ _ h, State.dispatch_up _ _ _ h.2]

/-- A served frame that is answered with one frame and does nothing else. -/
theorem State.form_answered (s : State) (n : Link) (f : OutFrame) (h : s.serves n) :
    (s.counted n).form n f = s.answered n [f] := by
  rw [State.form_sent _ _ _ (by simpa using h.2), State.counted_sent]

/-- An event is taken while RESET is deasserted. -/
theorem State.unlessReset_next (s : State) (f : State → State) (h : s.resetPin = false) : s.unlessReset f = f s := by
  simp [State.unlessReset, h]

/-! ### Notices -/

/-- Everything the emission test of one kind on one link can do (R148): it writes ports and kinds alone, of them only the
port and the sent flag of that link and kind; where it passes, the NOTICE is formed and the flag set, and otherwise
nothing changes. -/
theorem State.emit_spec (s : State) (k : NoticeKind) (n : Link) :
    s.emit k n = { s with ports := (s.emit k n).ports, kinds := (s.emit k n).kinds } ∧
    (s.emit k n).port n.other = s.port n.other ∧
    (∀ j, ((s.emit k n).kind j).latch = (s.kind j).latch ∧
      ((s.emit k n).kind j).sent.get n.other = (s.kind j).sent.get n.other) ∧
    (∀ j, j ≠ k → (s.emit k n).kind j = s.kind j) ∧
    (match (s.kind k).latch with
     | .clear => s.emit k n = s
     | .latched c d =>
       if (s.port n).up = true ∧ enabledIn (s.port n).enables k = true ∧ (s.kind k).sent.get n = false then
         (s.emit k n).port n = { s.port n with outbound := (s.port n).outbound ++ [.notice k c d] } ∧
           ((s.emit k n).kind k).sent.get n = true
       else s.emit k n = s) := by
  cases hl : (s.kind k).latch with
  | clear =>
    have e : s.emit k n = s := by simp only [State.emit, hl]
    simp only [e]
    exact ⟨trivial, trivial, fun _ => ⟨trivial, trivial⟩, fun _ _ => trivial, trivial⟩
  | latched c d =>
    by_cases hc : (s.port n).up = true ∧ enabledIn (s.port n).enables k = true ∧ (s.kind k).sent.get n = false
    · have e : s.emit k n =
          (s.form n (.notice k c d)).updKind k fun r => { r with sent := r.sent.set n true } := by
        simp only [State.emit, hl]; rw [if_pos hc]
      have hp : ∀ m, ((s.form n (.notice k c d)).updKind k fun r => { r with sent := r.sent.set n true }).port m =
          (s.form n (.notice k c d)).port m := fun _ => rfl
      have hk : ∀ m, (s.form n (.notice k c d)).kind m = s.kind m := fun _ => rfl
      rw [e]
      refine ⟨rfl, ?_, fun j => ?_, fun j hj => ?_, ?_⟩
      · rw [hp, State.form_port, if_neg (by cases n <;> decide)]
      · rw [State.updKind_kind, hk, hk]
        split
        · subst_vars; exact ⟨rfl, PerLink.get_set_other _ _ _⟩
        · exact ⟨rfl, rfl⟩
      · rw [State.updKind_kind, if_neg hj, hk]
      · dsimp only
        rw [if_pos hc]
        refine ⟨?_, ?_⟩
        · rw [hp, State.form_port, if_pos rfl, Port.form, if_pos hc.1]
        · rw [State.updKind_kind, if_pos rfl]; exact PerLink.get_set_self _ _ _
    · have e : s.emit k n = s := by simp only [State.emit, hl]; rw [if_neg hc]
      rw [e]
      refine ⟨rfl, rfl, fun _ => ⟨rfl, rfl⟩, fun _ _ => rfl, ?_⟩
      dsimp only
      rw [if_neg hc]

@[simp] theorem State.emit_up (s : State) (k : NoticeKind) (n m : Link) :
    ((s.emit k n).port m).up = (s.port m).up := by
  obtain ⟨_, h2, _, _, h5⟩ := s.emit_spec k n
  by_cases hm : m = n
  · subst hm
    split at h5
    · rw [h5]
    · split at h5
      · rw [h5.1]
      · rw [h5]
  · have e : m = n.other := by cases m <;> cases n <;> first | rfl | exact absurd rfl hm
    rw [e, h2]

@[simp] theorem State.raise_up (s : State) (d : Detail) (n : Link) : ((s.raise d).port n).up = (s.port n).up := by
  simp only [State.raise, State.emit_up]; rfl

/-! ### Timers -/

theorem mem_ticketNumbers (t : Fin 24) : t ∈ ticketNumbers := List.mem_finRange t

/-- Which timers run: a ticket's, the lease's, the controller's. -/
theorem State.mem_timerEnds (s : State) (x : Nat) :
    x ∈ s.timerEnds ↔ (∃ t, (s.ticket t).st.timerEnd? = some x) ∨ (∃ l, s.lease = some l ∧ l.expiry = x) ∨
      s.bpc.timerEnd? = some x := by
  simp only [State.timerEnds, List.mem_append, List.mem_filterMap, Option.mem_toList, Option.map_eq_some_iff,
    mem_ticketNumbers, true_and, or_assoc]

theorem State.atTimerEnd_first (s : State) (e : Nat) (f : State → State) (h : ∀ x ∈ s.timerEnds, e ≤ x) :
    s.atTimerEnd e f = f (s.toward e) := by
  unfold State.atTimerEnd; rw [if_pos (by simpa using h)]

theorem State.atTimerEnd_later (s : State) (e : Nat) (f : State → State) (h : ∃ x ∈ s.timerEnds, x < e) :
    s.atTimerEnd e f = s := by
  obtain ⟨x, hx, hlt⟩ := h
  unfold State.atTimerEnd; rw [if_neg]
  simp only [List.all_eq_true, decide_eq_true_eq]
  exact fun hall => absurd (hall x hx) (by omega)

/-- Everything the end of a timer can do: nothing while another timer ends earlier, its effect at its end otherwise. -/
theorem State.atTimerEnd_keeps_prop (P : State → Prop) (s : State) (e : Nat) (f : State → State) (h : P s)
    (hf : (∀ x ∈ s.timerEnds, e ≤ x) → P (f (s.toward e))) : P (s.atTimerEnd e f) := by
  unfold State.atTimerEnd; split
  · rename_i hall; exact hf (by simpa using hall)
  · exact h

/-! ### Commits -/

@[simp] theorem State.applyCommit_active (s : State) (i : Fin 32) : s.applyCommit.active[i] = s.resulting i := by
  simp [State.applyCommit]
@[simp] theorem State.applyCommit_staging (s : State) : s.applyCommit.staging = .replicate 32 .none := by
  simp only [State.applyCommit]
@[simp] theorem State.applyCommit_port (s : State) (n : Link) : s.applyCommit.port n = s.port n := by
  simp only [State.port, State.applyCommit_ports]
@[simp] theorem State.applyCommit_queue (s : State) (n : Link) : s.applyCommit.queue n = s.queue n := by
  simp only [State.queue, State.applyCommit_queues]
@[simp] theorem State.applyCommit_ticket (s : State) (t : Fin 24) : s.applyCommit.ticket t = s.ticket t := by
  simp only [State.ticket, State.applyCommit_tickets]

/-! ### Properties that the taking of a command keeps -/

theorem State.arrive_keeps (P : State → Prop) (s : State) (n : Link) (f : Option RawFrame) (take : State → State)
    (h : P s) (hwait : ∀ g, P (s.waitAtReceiver n g)) (htake : P (take s)) : P (s.arrive n f take) := by
  rcases s.arrive_cases n f take with e | ⟨g, _, e⟩ | ⟨_, e⟩ <;> rw [e]
  · exact h
  · exact hwait g
  · exact htake

theorem State.unlessReset_keeps (P : State → Prop) (s : State) (f : State → State) (h : P s)
    (hf : s.resetPin = false → P (f s)) : P (s.unlessReset f) := by
  unfold State.unlessReset
  split
  · exact h
  · rename_i hr; exact hf (by simpa using hr)

theorem State.dispatch_keeps (P : State → Prop) (s : State) (n : Link) (act : State → State)
    (hdown : P (s.updPort n fun p => { p with downDrops := rise p.downDrops })) (hact : P (act (s.counted n))) :
    P (s.dispatch n act) := by
  cases h : (s.port n).up with
  | true => rw [s.dispatch_up n act h]; exact hact
  | false => rw [s.dispatch_down n act h]; exact hdown

/-- A property kept by the forming of a frame is kept by the checks of R159 and the reply when it is kept by the owner's
part, which runs only where the operand bytes are as many as the command takes and, where the command needs the lease,
the sender holds it. -/
theorem State.checked_keeps (P : State → Prop) (s : State) (n : Link) (tag code : Byte) (count : Nat) (lease : Bool)
    (ops : List Byte) (owner : List Byte → State → MgmtAnswer) (hform : ∀ (s : State) n f, P s → P (s.form n f))
    (h : P s) (howner : ops.length = count → (lease = true → s.holdsLease n = true) → P (owner ops s).state) :
    P ((s.checked n count lease ops owner).reply n tag code) := by
  refine hform _ _ _ ?_
  unfold State.checked
  split
  · exact h
  · split
    · exact h
    · rename_i hlen hl
      exact howner (by simpa using hlen) (fun e => by simpa [e] using hl)

end Sys2Proof.Machine
end

