-- ==== Sys2Proof/Laws/PerInstr.lean ====
section
/-! SUPPORT. Statements about every command as syntax, one lemma for each constructor. -/

namespace Sys2Proof.Laws

/-- The frame of a well-formed command has a body of at most 255 bytes, so that its body length byte can carry it (R200). -/
def BodyBound.Statement (i : Instr) : Prop :=
  i.wellFormed = true → ∀ f : RawFrame, encodeFrame i = some f → f.body.length ≤ 255

namespace BodyBound

/-- A MGMT frame whose operand bytes fit. -/
theorem of_operandsFit (tag code : Byte) (ops : List Byte) (h : operandsFit ops = true) (f : RawFrame)
    (e : some (mgmtFrame tag code ops) = some f) : f.body.length ≤ 255 := by
  cases e
  simp only [operandsFit, decide_eq_true_eq] at h
  simp only [mgmtFrame, RawFrame.seal, List.length_cons]
  omega

/-- A frame whose body is at most 255 bytes. -/
theorem of_seal (kind : Byte) (body : List Byte) (h : body.length ≤ 255) (f : RawFrame)
    (e : some (RawFrame.seal kind body) = some f) : f.body.length ≤ 255 := by
  cases e; exact h

theorem length_writeBody (addr : UpAddr) (len : Byte) (data : List Byte) :
    (writeBody addr len data).length = data.length + 5 := by
  simp [writeBody, be32]

theorem fullReset (cause : ResetCause) : Statement (.fullReset cause) := fun _ _ e => nomatch e

theorem lossOfSignal (n : Link) (asserted : Bool) : Statement (.lossOfSignal n asserted) := fun _ _ e => nomatch e

theorem hello (n : Link) : Statement (.hello n) :=
  fun _ => of_seal _ _ (by decide)

theorem frameDrop (n : Link) (f : RawFrame) : Statement (.frameDrop n f) := by
  intro h g e
  cases e
  simp only [Instr.wellFormed, decide_eq_true_eq] at h
  exact h.1

theorem read (n : Link) (tag : Byte) (addr : UpAddr) (len : Byte) : Statement (.read n tag addr len) :=
  fun _ => of_seal _ _ (by simp [be32])

theorem writeConfirmed (n : Link) (tag : Byte) (addr : UpAddr) (len : Byte) (data : List Byte) : Statement (.writeConfirmed n tag addr len data) := by
  intro h
  simp only [Instr.wellFormed, decide_eq_true_eq] at h
  exact of_seal _ _ (by simp only [length_writeBody, List.length_cons]; omega)

theorem write (n : Link) (addr : UpAddr) (len : Byte) (data : List Byte) : Statement (.write n addr len data) := by
  intro h
  simp only [Instr.wellFormed, decide_eq_true_eq] at h
  exact of_seal _ _ (by rw [length_writeBody]; omega)

theorem claim (n : Link) (tag number gen : Byte) : Statement (.claim n tag number gen) :=
  fun _ => of_seal _ _ (by simp)

theorem cancel (n : Link) (tag number gen : Byte) : Statement (.cancel n tag number gen) :=
  fun _ => of_seal _ _ (by simp)

theorem mgmtUnknownCommand (n : Link) (tag code : Byte) (ops : List Byte) : Statement (.mgmtUnknownCommand n tag code ops) := by
  intro h
  simp only [Instr.wellFormed, decide_eq_true_eq] at h
  exact of_operandsFit _ _ _ h.1

theorem leaseTake (n : Link) (tag : Byte) (ops : List Byte) : Statement (.leaseTake n tag ops) :=
  fun h => of_operandsFit _ _ _ h

theorem leaseRenew (n : Link) (tag : Byte) (ops : List Byte) : Statement (.leaseRenew n tag ops) :=
  fun h => of_operandsFit _ _ _ h

theorem leaseDrop (n : Link) (tag : Byte) (ops : List Byte) : Statement (.leaseDrop n tag ops) :=
  fun h => of_operandsFit _ _ _ h

theorem identify (n : Link) (tag : Byte) (ops : List Byte) : Statement (.identify n tag ops) :=
  fun h => of_operandsFit _ _ _ h

theorem countersRead (n : Link) (tag : Byte) (ops : List Byte) : Statement (.countersRead n tag ops) :=
  fun h => of_operandsFit _ _ _ h

theorem countersClear (n : Link) (tag : Byte) (ops : List Byte) : Statement (.countersClear n tag ops) :=
  fun h => of_operandsFit _ _ _ h

theorem gateReset (n : Link) (tag : Byte) (ops : List Byte) : Statement (.gateReset n tag ops) :=
  fun h => of_operandsFit _ _ _ h

theorem windowStage (n : Link) (tag : Byte) (ops : List Byte) : Statement (.windowStage n tag ops) :=
  fun h => of_operandsFit _ _ _ h

theorem windowUnstageClear (n : Link) (tag : Byte) (ops : List Byte) : Statement (.windowUnstageClear n tag ops) := by
  intro h
  simp only [Instr.wellFormed, hasClearFlag, decide_eq_true_eq] at h
  exact of_operandsFit _ _ _ (by simp [operandsFit, h.1])

theorem windowUnstageWithdraw (n : Link) (tag : Byte) (ops : List Byte) : Statement (.windowUnstageWithdraw n tag ops) := by
  intro h
  simp only [Instr.wellFormed, decide_eq_true_eq] at h
  exact of_operandsFit _ _ _ h.1

theorem windowCommit (n : Link) (tag : Byte) (ops : List Byte) : Statement (.windowCommit n tag ops) :=
  fun h => of_operandsFit _ _ _ h

theorem windowLock (n : Link) (tag : Byte) (ops : List Byte) : Statement (.windowLock n tag ops) :=
  fun h => of_operandsFit _ _ _ h

theorem windowRead (n : Link) (tag : Byte) (ops : List Byte) : Statement (.windowRead n tag ops) :=
  fun h => of_operandsFit _ _ _ h

theorem setQuota (n : Link) (tag : Byte) (ops : List Byte) : Statement (.setQuota n tag ops) :=
  fun h => of_operandsFit _ _ _ h

theorem setDiscard (n : Link) (tag : Byte) (ops : List Byte) : Statement (.setDiscard n tag ops) :=
  fun h => of_operandsFit _ _ _ h

theorem ticketSummary (n : Link) (tag : Byte) (ops : List Byte) : Statement (.ticketSummary n tag ops) :=
  fun h => of_operandsFit _ _ _ h

theorem setBpTimeout (n : Link) (tag : Byte) (ops : List Byte) : Statement (.setBpTimeout n tag ops) :=
  fun h => of_operandsFit _ _ _ h

theorem slotProbe (n : Link) (tag : Byte) (ops : List Byte) : Statement (.slotProbe n tag ops) :=
  fun h => of_operandsFit _ _ _ h

theorem slotFence (n : Link) (tag : Byte) (ops : List Byte) : Statement (.slotFence n tag ops) :=
  fun h => of_operandsFit _ _ _ h

theorem setFaultLimit (n : Link) (tag : Byte) (ops : List Byte) : Statement (.setFaultLimit n tag ops) :=
  fun h => of_operandsFit _ _ _ h

theorem slotStatus (n : Link) (tag : Byte) (ops : List Byte) : Statement (.slotStatus n tag ops) :=
  fun h => of_operandsFit _ _ _ h

theorem noticeEnable (n : Link) (tag : Byte) (ops : List Byte) : Statement (.noticeEnable n tag ops) :=
  fun h => of_operandsFit _ _ _ h

theorem noticeAck (n : Link) (tag : Byte) (ops : List Byte) : Statement (.noticeAck n tag ops) :=
  fun h => of_operandsFit _ _ _ h

theorem noticeRead (n : Link) (tag : Byte) (ops : List Byte) : Statement (.noticeRead n tag ops) :=
  fun h => of_operandsFit _ _ _ h

theorem holdExpiry (t : Fin 24) : Statement (.holdExpiry t) := fun _ _ e => nomatch e

theorem discardExpiry (t : Fin 24) : Statement (.discardExpiry t) := fun _ _ e => nomatch e

theorem leaseExpiry : Statement .leaseExpiry := fun _ _ e => nomatch e

theorem phaseTimerExpiry : Statement .phaseTimerExpiry := fun _ _ e => nomatch e

theorem selectAccept : Statement .selectAccept := fun _ _ e => nomatch e

theorem selectReject : Statement .selectReject := fun _ _ e => nomatch e

theorem selectWait : Statement .selectWait := fun _ _ e => nomatch e

theorem writeBeatAccept : Statement .writeBeatAccept := fun _ _ e => nomatch e

theorem writeBeatError : Statement .writeBeatError := fun _ _ e => nomatch e

theorem readBeatData (lanes : BitVec 32) (parity : BitVec 4) : Statement (.readBeatData lanes parity) := fun _ _ e => nomatch e

theorem readBeatError : Statement .readBeatError := fun _ _ e => nomatch e

theorem alertAssertion (slot : Fin 16) (asserted : Bool) : Statement (.alertAssertion slot asserted) := fun _ _ e => nomatch e

theorem arbiterGrant : Statement .arbiterGrant := fun _ _ e => nomatch e

theorem headDisposal (n : Link) : Statement (.headDisposal n) := fun _ _ e => nomatch e

theorem outboundFrameSent (n : Link) : Statement (.outboundFrameSent n) := fun _ _ e => nomatch e

theorem frameWaitsAtReceiver (n : Link) (f : RawFrame) : Statement (.frameWaitsAtReceiver n f) := fun _ _ e => nomatch e

theorem transmissionBegins (n : Link) : Statement (.transmissionBegins n) := fun _ _ e => nomatch e

end BodyBound

end Sys2Proof.Laws
end

