-- ==== Sys2Proof/Tests/Slice0.lean ====
section
/-! SUPPORT. The model's own tests: the checks of WellFormed, the formats, the worked examples of the manual, and for every
obligation with hypotheses a state and operands that meet them. -/

namespace Sys2Proof.Tests

open Sys2Proof.Machine

set_option Elab.async false

/-! ### WellFormed refuses -/

/-- A body that no frame can carry. -/
def longBody : List Byte := .replicate 256 0

def soundFrame : RawFrame := .seal Config.kindHello []

theorem test_frameDrop_refuses_sound : (Instr.frameDrop .l0 soundFrame).wellFormed = false := by decide +kernel
theorem test_frameDrop_refuses_long : (Instr.frameDrop .l0 ⟨0, longBody, 0⟩).wellFormed = false := by
  decide +kernel
theorem test_frameDrop_accepts : (Instr.frameDrop .l0 ⟨1, [], 0⟩).wellFormed = true := by decide +kernel
theorem test_frameWaits_refuses_long :
    (Instr.frameWaitsAtReceiver .l0 ⟨1, longBody, 0⟩).wellFormed = false := by decide +kernel
theorem test_writeConfirmed_refuses_count : (Instr.writeConfirmed .l0 0 0 3 [1, 2]).wellFormed = false := by decide
theorem test_writeConfirmed_refuses_long :
    (Instr.writeConfirmed .l0 0 0 250 (.replicate 250 0)).wellFormed = false := by decide +kernel
theorem test_write_refuses_count : (Instr.write .l0 0 1 [1, 2]).wellFormed = false := by decide
theorem test_write_refuses_long : (Instr.write .l0 0 251 (.replicate 251 0)).wellFormed = false := by decide +kernel
theorem test_unknown_refuses_known : (Instr.mgmtUnknownCommand .l0 0 0x52 []).wellFormed = false := by decide
theorem test_unknown_refuses_long :
    (Instr.mgmtUnknownCommand .l0 0 0x53 (.replicate 254 0)).wellFormed = false := by decide +kernel
theorem test_unstageClear_refuses : (Instr.windowUnstageClear .l0 0 [3, 0]).wellFormed = false := by decide
theorem test_unstageWithdraw_refuses : (Instr.windowUnstageWithdraw .l0 0 [3, 1]).wellFormed = false := by decide
theorem test_unstageWithdraw_refuses_long :
    (Instr.windowUnstageWithdraw .l0 0 (.replicate 254 0)).wellFormed = false := by decide +kernel

/-- The MGMT rows whose only check is that their operand bytes fit. -/
def plainRows (ops : List Byte) : List Instr :=
  [.leaseTake .l0 0 ops, .leaseRenew .l0 0 ops, .leaseDrop .l0 0 ops, .identify .l0 0 ops, .countersRead .l0 0 ops,
   .countersClear .l0 0 ops, .gateReset .l0 0 ops, .windowStage .l0 0 ops, .windowCommit .l0 0 ops,
   .windowLock .l0 0 ops, .windowRead .l0 0 ops, .setQuota .l0 0 ops, .setDiscard .l0 0 ops, .ticketSummary .l0 0 ops,
   .setBpTimeout .l0 0 ops, .slotProbe .l0 0 ops, .slotFence .l0 0 ops, .setFaultLimit .l0 0 ops,
   .slotStatus .l0 0 ops, .noticeEnable .l0 0 ops, .noticeAck .l0 0 ops, .noticeRead .l0 0 ops]

theorem test_plain_refuse_long : (plainRows (.replicate 254 0)).all (fun i => !i.wellFormed) = true := by decide +kernel
theorem test_plain_accept : (plainRows (.replicate 253 0)).all (·.wellFormed) = true := by decide +kernel

/-! ### Formats -/

/-- R200: the CRC of the nine ASCII characters "123456789" is 29B1h. -/
theorem test_crc : crc16 [0x31, 0x32, 0x33, 0x34, 0x35, 0x36, 0x37, 0x38, 0x39] = 0x29B1 := by decide +kernel

/-- The READ and the answers of the example of chapter 10. -/
theorem test_decode_read :
    decodeFrame .l0 (.seal 0x02 [0x0B, 0x00, 0x01, 0x00, 0x80, 0x04]) = .read .l0 0x0B 0x00010080 4 := by decide +kernel
theorem test_pending_body : (OutFrame.result 0x0B (.pending 1 0)).body = [0x0B, 0x03, 0x01, 0x00] := by decide
theorem test_pending_wire : (OutFrame.result 0x0B (.pending 1 0)).raw.wire.take 7 =
    [0x5C, 0x82, 0x04, 0x0B, 0x03, 0x01, 0x00] := by decide +kernel
theorem test_decode_claim : decodeFrame .l1 (.seal 0x05 [0x0C, 0x01, 0x00]) = .claim .l1 0x0C 1 0 := by decide +kernel
theorem test_no_ticket_body : (OutFrame.result 0x0C (.fail .noTicket)).body = [0x0C, 0x05, 0x0C] := by decide
theorem test_decode_write :
    decodeFrame .l0 (.seal 0x03 [0, 1, 0, 0x40, 2, 0xAA, 0xBB]) = .write .l0 0x00010040 2 [0xAA, 0xBB] := by
  decide +kernel
theorem test_decode_writeConfirmed :
    decodeFrame .l0 (.seal 0x04 [9, 0, 1, 0, 0x40, 1, 0xAA]) = .writeConfirmed .l0 9 0x00010040 1 [0xAA] := by
  decide +kernel
theorem test_decode_cancel : decodeFrame .l0 (.seal 0x06 [1, 2, 3]) = .cancel .l0 1 2 3 := by decide +kernel
theorem test_decode_mgmt : decodeFrame .l0 (.seal 0x07 [7, 0x12, 1]) = .windowCommit .l0 7 [1] := by decide +kernel
theorem test_decode_unknown : decodeFrame .l0 (.seal 0x07 [7, 0x60, 1]) = .mgmtUnknownCommand .l0 7 0x60 [1] := by
  decide +kernel
theorem test_decode_short : decodeFrame .l0 (.seal 0x02 [1, 2]) = .frameDrop .l0 (.seal 0x02 [1, 2]) := by decide +kernel
/-- Bytes outside a frame are ignored, and a byte 5Ch inside a body needs no escaping (R200). -/
theorem test_stream :
    receivedFrames ([0x00, 0x5D] ++ (RawFrame.seal 0x06 [0x5C, 2, 3]).wire ++ [0x11] ++ soundFrame.wire ++ [0x5C, 1]) =
      [.seal 0x06 [0x5C, 2, 3], soundFrame] := by decide +kernel

/-! ### States of the worked examples -/

/-- Records A2, B, D2 and A of the worked example of chapter 1. -/
def recA2 : WindowRecord := ⟨0x00014000, 0x00017FFF, 3, 0x004000, ⟨.readWrite, .none⟩, .w4, some 40, true⟩
def recB : WindowRecord := ⟨0x00020000, 0x000203FF, 7, 0x001000, ⟨.readWrite, .readWrite⟩, .w2, none, false⟩
def recD2 : WindowRecord := ⟨0x00018000, 0x0001BFFF, 4, 0x000000, ⟨.read, .read⟩, .w1, none, false⟩
def recA : WindowRecord := ⟨0x00010000, 0x0001FFFF, 3, 0x000000, ⟨.readWrite, .read⟩, .w4, some 40, true⟩

/-- Both links UP, link 0 holds the lease. -/
def base : State :=
  { State.reset with
    ports := .both { Port.reset with up := true, granted := 16 }, lease := some ⟨.l0, 10, 1000000⟩ }

/-- The windows of the example of chapter 3, slot 3 ONLINE. -/
def open3 : State :=
  { base with
    active := ((base.active.set 0 (some recA2)).set 1 (some recB)).set 2 (some recD2)
    slots := base.slots.set 3 { Slot.reset with state := .online, identity := 0x51 } }

theorem serves_of (s : State) (hp : s.ports = base.ports) (hr : s.resetPin = false) (hl : s.losPin = .both false)
    (n : Link) : s.serves n := by
  have hm : s.mustWait n = false := by
    simp only [State.mustWait, State.port, hp]
    cases n <;> decide
  have hlos : s.losPin.get n = false := by rw [hl]; cases n <;> rfl
  refine ⟨by simp only [State.takesNow, hr, hlos, hm]; rfl, ?_⟩
  simp only [State.port, hp]
  cases n <;> rfl

theorem base_serves (n : Link) : base.serves n := serves_of _ rfl rfl rfl n
theorem open3_serves (n : Link) : open3.serves n := serves_of _ rfl rfl rfl n
theorem base_lease : base.holdsLease .l0 = true ∧ base.holdsLease .l1 = false := by decide
theorem open3_lease : open3.holdsLease .l0 = true := by decide

def passes (x : Except FailReason WindowRecord) (w : WindowRecord) : Bool :=
  match x with
  | .ok r => r = w
  | .error _ => false

def fails (x : Except FailReason WindowRecord) (why : FailReason) : Bool :=
  match x with
  | .ok _ => false
  | .error e => e = why

/-- The outcomes of the admission checks in the example of chapter 3, frame by frame. -/
theorem test_admission_example :
    passes (open3.admission .l0 .read 0x00015010 4) recA2 = true ∧
    passes (open3.admission .l0 .read 0x00015020 8) recA2 = true ∧
    fails (open3.admission .l1 .read 0x00014001 3) .denied = true ∧
    fails (open3.admission .l0 .read 0x00015010 0) .badLength = true ∧
    fails (open3.admission .l0 .read 0x00015030 32) .badLength = true ∧
    fails (open3.admission .l0 .read 0x00012000 4) .noWindow = true ∧
    fails (open3.admission .l0 .write 0x00019004 2) .denied = true ∧
    passes (open3.admission .l1 .write 0x00020102 4) recB = true ∧
    fails (open3.admission .l1 .read 0x00020101 2) .badAlign = true ∧
    passes (open3.admission .l0 .write 0x00014100 16) recA2 = true ∧
    fails (open3.admission .l1 .write 0x00014100 4) .denied = true ∧
    fails (open3.admission .l0 .write 0x00019000 1) .denied = true ∧
    passes (open3.admission .l1 .read 0x00019000 64) recD2 = true ∧
    recB.translate 0x00020102 = 0x001102 ∧
    recA.translate 0x00012340 = 0x002340 := by decide +kernel

/-- A request of link 0 through window 0, as the first frame of the example of chapter 3. -/
def req : Request := ⟨.l0, 1, .read, 3, 0x005010, .w4, 4, 0x00015010⟩
def wreq : Request := ⟨.l0, 2, .confirmedWrite, 3, 0x005020, .w4, 4, 0x00015020⟩
def entry : PostedEntry := ⟨0x00014100, 3, 0x004100, .w4, 16, .replicate 16 0xA5, true⟩
def entry2 : PostedEntry := ⟨0x00014110, 3, 0x004110, .w4, 4, .replicate 4 0x5A, true⟩

/-- Ticket 5 of link 0 in a state, its entry at the head of WQ0 and a posted entry behind it. -/
def queued5 (m : ReplyMode) : State :=
  { open3 with
    tickets := open3.tickets.set 5 ⟨3, .queued req [] m⟩
    queues := ⟨[.ticketed 5, .posted entry], []⟩ }

/-- The read of ticket 5 on the backplane, in its address phase. -/
def issued5 (m : ReplyMode) : State :=
  { open3 with
    tickets := open3.tickets.set 5 ⟨3, .issued req [] m⟩
    bpc := .addressing (.ticketed 5 req []) none 128
    bus := ⟨some 3, .select .read 0x005010 1⟩ }

/-- Ticket 5 READY with its data. -/
def ready5 : State :=
  { open3 with tickets := open3.tickets.set 5 ⟨3, .ready req (.data [1, 2, 3, 4]) (some 16000)⟩ }

theorem read_beats_in (s : State) (t : Fin 24) (h : s.ticketInProgress = none) (q : Request) :
    s.ticketInProgress ≠ some (t, q) := by rw [h]; exact nofun

/-! ### Small tests of commands -/

/-- The first two frames of the example of chapter 3: ticket 0 DIRECT and nothing sent, then ticket 1 DEFERRED with
PENDING. -/
theorem test_read_direct : ∃ t, exec (.read .l0 1 0x00015010 4) open3 = .next t ∧
    (t.ticket 0).st = .queued req [] (.direct 40) ∧ (t.port .l0).outbound = [] ∧ t.queue .l0 = [.ticketed 0] :=
  ⟨_, rfl, by decide +kernel, by decide +kernel, by decide +kernel⟩

theorem test_read_deferred :
    ∃ t, exec (.read .l0 2 0x00015020 8) { open3 with tickets := open3.tickets.set 0 ⟨0, .queued req [] (.direct 40)⟩ } =
        .next t ∧
      (t.port .l0).outbound = [.result 2 (.pending 1 0)] ∧ (t.ticket 1).st.isDirect = false :=
  ⟨_, rfl, by decide +kernel, by decide +kernel⟩

/-- Frame 11 of the example of chapter 3: the write is dropped and its credit returned. -/
theorem test_write_dropped : ∃ t, exec (.write .l1 0x00014100 4 [1, 2, 3, 4]) open3 = .next t ∧
    (t.kind .accessFault).latch = .latched 1 (.accessFault .l1 .denied 0x00014100) ∧
    (t.adm.get .l1).accessFaults = 1 ∧ (t.port .l1).outbound = [.credit 1] ∧ (t.port .l1).granted = 16 :=
  ⟨_, rfl, by decide +kernel, by decide +kernel, by decide +kernel, by decide +kernel⟩

theorem test_narrowing : narrows (some recA) recA2 = true ∧ narrows (some recA2) recA = false := by decide +kernel

/-- A posted write is granted and its run continues with the next entry in the row (R92). -/
theorem test_run :
    ∃ t, exec .writeBeatAccept { open3 with
        queues := ⟨[.posted entry2], []⟩
        bpc := .transfer (.postedWrite .l0 entry) (some 0x004100) 128 3 [] } = .next t ∧
      t.bpc = .transfer (.postedWrite .l0 entry2) (some 0x004100) 128 0 [] ∧ t.queue .l0 = [] :=
  ⟨_, rfl, by decide +kernel, by decide +kernel⟩

/-! ### Witnesses: steps and full reset -/

/-- Two frames wait at link 0, whose outbound list has room again. -/
def waiting2 : State :=
  { base with ports := base.ports.set .l0 { base.port .l0 with waiting := [.seal 5 [7, 5, 3], soundFrame] } }

theorem witness_IdleStep : base.pending = [] ∧ GateEvent.time ∈ base.openEvents ∧
    GateEvent.time ∈ ({ base with resetPin := true } : State).openEvents ∧
    GateEvent.takeWaiting .l0 ∈ waiting2.openEvents ∧
    (waiting2.port .l0).waiting = .seal 5 [7, 5, 3] :: [soundFrame] := by decide +kernel

/-- The oldest waiting frame, a CLAIM, is answered, and the HELLO behind it still waits. -/
theorem test_takeWaiting : (match (GateEvent.takeWaiting .l0).run waiting2 with
    | .next t =>
      decide ((t.port .l0).waiting = [soundFrame] ∧ (t.port .l0).outbound = [.result 7 (.fail .noTicket)])
    | _ => false) = true := by decide +kernel

theorem witness_FullResetAndTheResetInput :
    base.resetPin = false ∧ ({ base with resetPin := true } : State).resetPin = true ∧
    (∀ cause, Instr.leaseExpiry ≠ .fullReset cause) ∧ (∀ n b, Instr.leaseExpiry ≠ .lossOfSignal n b) ∧
    (∀ i b, Instr.leaseExpiry ≠ .alertAssertion i b) ∧
    ({ base with losPin := ⟨true, false⟩ } : State).losPin.get .l0 = true ∧
    ({ base with alertPin := base.alertPin.set 15 true } : State).alertPin[(15 : Fin 16)] = true :=
  ⟨rfl, rfl, nofun, nofun, nofun, rfl, by decide +kernel⟩

/-! ### Witnesses: window table -/

/-- The three windows of the example do not overlap. -/
theorem open3_disjoint : WindowsDisjoint open3.active := by
  have key : ∀ i j : Fin 32, i ≠ j → (match open3.active[i], open3.active[j] with
      | some r, some q => !r.overlaps q
      | _, _ => true) = true := by decide +kernel
  intro i j r q hij hi hj
  have := key i j hij
  rw [hi, hj] at this
  simpa using this

theorem witness_Lookup : WindowsDisjoint open3.active ∧
    lookup open3.active 0x00014000 = some (0, recA2) ∧ lookup open3.active 0x00017FFF = some (0, recA2) ∧
    lookup open3.active 0x00018000 = some (2, recD2) ∧ lookup open3.active 0x00013FFF = none ∧
    lookup open3.active 0xFFFFFFFF = none :=
  ⟨open3_disjoint, by decide +kernel⟩

theorem witness_ARowRequest : WindowsDisjoint open3.active ∧ recA2.valid = true ∧
    lengthInRow 0x00014000 64 = true ∧ lookup open3.active 0x00014000 = some (0, recA2) ∧
    lengthInRow 0x00017FFF 1 = true ∧ lookup open3.active 0x00017FFF = some (0, recA2) :=
  ⟨open3_disjoint, by decide +kernel⟩

/-- Window 0 holds record A and is NARROW, index 1 is FROZEN. -/
def locked : State :=
  { open3 with
    active := open3.active.set 0 (some recA)
    locks := (open3.locks.set 0 .narrow).set 1 .frozen }

theorem locked_serves (n : Link) : locked.serves n := serves_of _ rfl rfl rfl n

theorem witness_WindowStage : locked.serves .l0 ∧ locked.holdsLease .l0 = true ∧ recA2.valid = true ∧
    locked.locks[(31 : Fin 32)] = .unlocked ∧ locked.locks[(0 : Fin 32)] = .narrow ∧
    locked.locks[(1 : Fin 32)] = .frozen ∧ narrows locked.active[(0 : Fin 32)] recA2 = true ∧
    narrows locked.active[(0 : Fin 32)] recB = false :=
  ⟨locked_serves .l0, by decide +kernel⟩

theorem witness_NarrowingOnlyNarrows : recA.valid = true ∧ recA2.valid = true ∧ narrows (some recA) recA2 = true ∧
    recA2.covers 0x00014000 = true ∧ (recA2.rights.get .l0).permits .write = true := by decide +kernel

theorem witness_WindowUnstage : locked.serves .l0 ∧ locked.holdsLease .l0 = true ∧
    locked.locks[(0 : Fin 32)] ≠ .frozen ∧ locked.locks[(1 : Fin 32)] = .frozen :=
  ⟨locked_serves .l0, by decide +kernel⟩

/-- Record A staged at index 5, against the windows of the example. -/
def staged (i : Fin 32) (r : WindowRecord) : State := { locked with staging := locked.staging.set i (.set r) }

theorem staged_serves (i : Fin 32) (r : WindowRecord) (n : Link) : (staged i r).serves n := serves_of _ rfl rfl rfl n

/-- Nothing staged; the lock check fails at index 1; the overlap check fails at index 0; every index passes (index 0 is
narrowed to A2, and D2 then overlaps nothing). -/
theorem witness_WindowCommit :
    (∀ j : Fin 32, locked.staging[j] = .none) ∧
    ((staged 1 recB).staging[(1 : Fin 32)] ≠ .none ∧ (staged 1 recB).lockPasses 1 = false) ∧
    ((staged 5 recA).staging[(5 : Fin 32)] ≠ .none ∧
      (∀ j : Fin 32, j < 0 → (staged 5 recA).lockPasses j = true ∧ (staged 5 recA).overlapPasses j = true) ∧
      (staged 5 recA).lockPasses 0 = true ∧ (staged 5 recA).overlapPasses 0 = false) ∧
    ((staged 0 recA2).staging[(0 : Fin 32)] ≠ .none ∧
      ∀ j : Fin 32, (staged 0 recA2).lockPasses j = true ∧ (staged 0 recA2).overlapPasses j = true) ∧
    (staged 0 recA2).holdsLease .l0 = true := by decide +kernel

/-- The lock check fails at index 1 once index 0 passes both checks. -/
theorem witness_WindowCommit_order :
    let s : State := { staged 1 recB with active := open3.active }
    (∀ j : Fin 32, j < 1 → s.lockPasses j = true ∧ s.overlapPasses j = true) ∧ s.lockPasses 1 = false := by
  decide +kernel

theorem witness_WindowLock : locked.serves .l0 ∧ locked.holdsLease .l0 = true ∧
    locked.locks[(0 : Fin 32)].rank ≤ LockLevel.narrow.rank ∧ LockLevel.narrow.rank < locked.locks[(1 : Fin 32)].rank :=
  ⟨locked_serves .l0, by decide +kernel⟩

theorem witness_WindowOperandChecks : base.serves .l0 ∧ base.holdsLease .l0 = true ∧
    32 ≤ (32 : Byte).toNat ∧ (31 : Byte).toNat < 32 ∧ (List.replicate 17 (0xFF : Byte)).length = 17 ∧
    recordOf (List.replicate 17 0xFF) = none ∧ 2 ≤ (2 : Byte).toNat ∧ 3 ≤ (3 : Byte).toNat :=
  ⟨base_serves .l0, by decide +kernel⟩

theorem witness_WindowRecordsReadBack :
    recA2.valid = true ∧ recordOf recA2.bytes = some recA2 ∧ recA2.bytes =
      [0x00, 0x01, 0x40, 0x00, 0x00, 0x01, 0x7F, 0xFF, 0x03, 0x00, 0x40, 0x00, 0x03, 0x00, 0x04, 0x28, 0x01] := by
  decide +kernel

/-! ### Witnesses: tickets -/

/-- Law 4 in a state with one ticket in one place, from its decidable part. -/
theorem ticketLaw_of_idle (s : State) (hb : s.ticketInProgress = none)
    (h : ∀ t : Fin 24, (match (s.ticket t).st with
      | .queued r _ _ => s.entriesOf r.owner t = 1 ∧ s.entriesOf r.owner.other t = 0
      | .issued _ _ _ => False
      | .detached _ => False
      | .ready _ _ _ => s.entriesOf .l0 t = 0 ∧ s.entriesOf .l1 t = 0
      | .free => s.entriesOf .l0 t = 0 ∧ s.entriesOf .l1 t = 0)) : s.TicketLaw := by
  intro t
  have := h t
  have hq : ∀ q, s.ticketInProgress ≠ some (t, q) := read_beats_in s t hb
  unfold State.TicketPlaced
  split at this <;> simp_all

theorem queued5_law (m : ReplyMode) : (queued5 m).TicketLaw := by
  apply ticketLaw_of_idle
  · rfl
  · intro t
    by_cases ht : t = 5
    · subst ht
      exact ⟨by simp [State.entriesOf, State.queue, queued5, PerLink.get, req],
        by simp [State.entriesOf, State.queue, queued5, PerLink.get, req, Link.other]⟩
    · have e : ((queued5 m).ticket t).st = .free := by
        simp only [queued5, State.ticket, open3, base, State.reset]
        simp [Ticket.reset, show ¬5 = t.val from fun h => ht (Fin.ext h.symm)]
      have e0 : (queued5 m).entriesOf .l0 t = 0 := by
        simp [State.entriesOf, State.queue, queued5, PerLink.get, show ¬5 = t from fun h => ht h.symm]
      have e1 : (queued5 m).entriesOf .l1 t = 0 := rfl
      rw [e]; exact ⟨e0, e1⟩

theorem queued5_serves (m : ReplyMode) (n : Link) : (queued5 m).serves n := serves_of _ rfl rfl rfl n
theorem issued5_serves (m : ReplyMode) (n : Link) : (issued5 m).serves n := serves_of _ rfl rfl rfl n
theorem ready5_serves (n : Link) : ready5.serves n := serves_of _ rfl rfl rfl n

/-- The queue of a link whose write right window 0 no longer gives, and whose read right it still gives. -/
def narrowed (m : ReplyMode) : State :=
  { queued5 m with active := (queued5 m).active.set 0 (some { recA2 with rights := ⟨.read, .none⟩ }) }

theorem narrowed_law (m : ReplyMode) : (narrowed m).TicketLaw := queued5_law m

theorem witness_RevokingCommit :
    (staged 0 recA2).serves .l0 ∧ (staged 0 recA2).holdsLease .l0 = true ∧
    (narrowed .deferred).TicketLaw ∧ ((narrowed .deferred).port .l0).up = true ∧
    (narrowed .deferred).queue .l0 = [.ticketed 5, .posted entry] ∧
    (narrowed .deferred).survives .l0 (.ticketed 5) = true ∧
    (narrowed .deferred).survives .l0 (.posted entry) = false ∧ (State.reset.port .l0).up = false :=
  ⟨staged_serves 0 recA2 .l0, by decide +kernel, narrowed_law _, by decide +kernel⟩

/-- A ticket of either reply mode that fails the pass. -/
theorem witness_RevokingCommit_fails (m : ReplyMode) :
    let s : State := { queued5 m with active := .replicate 32 none }
    s.TicketLaw ∧ (s.ticket 5).st = .queued req [] m ∧ .ticketed 5 ∈ s.queue .l0 ∧
      s.survives .l0 (.ticketed 5) = false :=
  ⟨queued5_law m, rfl, by simp [State.queue, queued5, PerLink.get], rfl⟩

/-- The pass answers the DIRECT ticket, then forms one CREDIT for the dropped write. -/
theorem test_revoke : ((({ queued5 (.direct 40) with active := .replicate 32 none } : State).revoke).port .l0).outbound =
    [.result 1 (.fail .revoked), .credit 1] := by decide +kernel

theorem witness_Claim_and_Cancel : ready5.serves .l0 ∧ (queued5 .deferred).serves .l0 ∧
    24 ≤ (24 : Byte).toNat ∧ 16 ≤ (16 : Byte).toNat ∧
    ((5 : Byte) = byte (5 : Fin 24).val ∧ (4 : Byte) ≠ (ready5.ticket 5).gen.setWidth 8) :=
  ⟨ready5_serves .l0, queued5_serves _ .l0, by decide +kernel⟩

theorem test_claim_ready : ∃ t, exec (.claim .l0 7 5 3) ready5 = .next t ∧
    (t.port .l0).outbound = [.result 7 (.data [1, 2, 3, 4])] ∧ t.ticket 5 = ⟨4, .free⟩ :=
  ⟨_, rfl, by decide +kernel, by decide +kernel⟩

theorem test_cancel_queued : ∃ t, exec (.cancel .l0 7 5 3) (queued5 .deferred) = .next t ∧
    (t.port .l0).outbound = [.result 7 .cancelled] ∧ t.queue .l0 = [.posted entry] ∧ t.ticket 5 = ⟨4, .free⟩ :=
  ⟨_, rfl, by decide +kernel, by decide +kernel, by decide +kernel⟩

theorem witness_Settings : base.serves .l0 ∧ base.serves .l1 ∧ base.holdsLease .l0 = true ∧ base.holdsLease .l1 = false ∧
    (1 ≤ (1 : Byte).toNat ∧ (24 : Byte).toNat ≤ 24) ∧ (2 ≤ (2 : Byte).toNat ∧ (0 : Byte).toNat = 0 ∧
      25 ≤ (25 : Byte).toNat) ∧ 4 ≤ (4 : Byte).toNat ∧ 3 ≤ (3 : Byte).toNat ∧ (7 : Byte).toNat ≤ 7 ∧
    8 ≤ (8 : Byte).toNat :=
  ⟨base_serves .l0, base_serves .l1, by decide +kernel⟩

theorem witness_HoldExpiry : open3.resetPin = false ∧ ((queued5 (.direct 40)).ticket 5).st = .queued req [] (.direct 40) ∧
    ((issued5 (.direct 40)).ticket 5).st = .issued req [] (.direct 40) ∧ (ready5.ticket 5).st.isDirect = false ∧
    (∀ x ∈ (queued5 (.direct 40)).timerEnds, 40 ≤ x) ∧ (∀ x ∈ (issued5 (.direct 40)).timerEnds, 40 ≤ x) ∧
    (∃ x ∈ ({ queued5 (.direct 40) with lease := some ⟨.l0, 10, 39⟩ } : State).timerEnds, x < 40) := by
  decide +kernel

theorem witness_DiscardExpiry : ready5.resetPin = false ∧ (ready5.ticket 5).st = .ready req (.data [1, 2, 3, 4]) (some 16000) ∧
    (∀ r res d, (open3.ticket 5).st ≠ .ready r res (some d)) ∧ (∀ x ∈ ready5.timerEnds, 16000 ≤ x) ∧
    (∃ x ∈ ({ ready5 with lease := some ⟨.l0, 10, 39⟩ } : State).timerEnds, x < 16000) :=
  ⟨rfl, by decide +kernel, nofun, by decide +kernel⟩

/-- Law 10: the lease cannot expire before the deadline of the READY ticket has passed. -/
theorem test_law10 : exec .leaseExpiry ready5 = .next ready5 ∧
    ∃ t u, exec (.discardExpiry 5) ready5 = .next t ∧ exec .leaseExpiry t = .next u ∧
      t.ticket 5 = ⟨4, .free⟩ ∧ t.now = 16000 ∧ u.lease = none ∧ u.now = 1000000 := by
  refine ⟨congrArg Host.Outcome.next ?_, _, _, rfl, rfl, by decide +kernel, by decide +kernel, by decide +kernel, by decide +kernel⟩
  exact State.atTimerEnd_later ready5 1000000 (·.loseLease ⟨.l0, 10, 1000000⟩ .expired) (by decide +kernel)

theorem witness_Completion : ((queued5 (.direct 40)).ticket 5).st = .queued req [] (.direct 40) ∧
    ((issued5 .deferred).ticket 5).st = .issued req [] .deferred ∧
    (({ open3 with tickets := open3.tickets.set 5 ⟨3, .detached req⟩ } : State).ticket 5).st = .detached req := by
  decide +kernel

/-- An event that frees a ticket, and one that frees none. -/
theorem witness_Generations : ∃ u v, exec (.claim .l0 7 5 3) ready5 = .next u ∧ exec (.claim .l1 7 5 3) ready5 = .next v ∧
    (∀ cause, Instr.claim .l0 7 5 3 ≠ .fullReset cause) ∧ (u.ticket 5).st = .free ∧ (v.ticket 5).st ≠ .free :=
  ⟨_, _, rfl, rfl, nofun, by decide +kernel, by decide +kernel⟩

/-! ### Witnesses: admission -/

theorem witness_LengthAndRow : lengthInRow 0x0000003F 1 = true ∧ lengthInRow 0x0000003F 2 = false ∧
    lengthInRow 0x00000040 64 = true ∧ lengthInRow 0x00000040 0 = false ∧ lengthInRow 0x00000040 65 = false ∧
    lengthInRow 0xFFFFFFFF 1 = true := by decide +kernel

/-- The branches of the checks; the third needs a record that is not valid, since a row never leaves a valid window. -/
theorem witness_AdmissionChecks : lengthInRow 0x00014000 0 = false ∧ lengthInRow 0x00014000 4 = true ∧
    lookup open3.active 0x00013FC0 = none ∧ lookup open3.active 0x00014000 = some (0, recA2) ∧
    lookup open3.active (lastByte 0x00014000 4) = some (0, recA2) ∧
    (recA2.rights.get .l1).permits .read = false ∧ (recA2.rights.get .l0).permits .read = true ∧
    (¬(((0x00014001 : UpAddr).toNat % recA2.width.toNat = 0) ∧ 3 % recA2.width.toNat = 0)) ∧
    lookup (open3.active.set 9 (some { recA2 with base := 0x300, limit := 0x301 })) 0x300 ≠ none ∧
    lookup (open3.active.set 9 (some { recA2 with base := 0x300, limit := 0x301 })) (lastByte 0x300 4) = none := by
  decide +kernel

theorem witness_RefusedTicketed : open3.serves .l1 ∧ ([1, 2, 3, 4] : List Byte).length = (4 : Byte).toNat ∧
    fails (open3.admission .l1 .read 0x00014000 4) .denied = true ∧
    fails (open3.admission .l1 .read 0x00014000 (250 : Byte).toNat) .badLength = true ∧
    fails (open3.admission .l1 .read 0x00014000 (255 : Byte).toNat) .badLength = true ∧
    fails (open3.admission .l1 .write 0x00014000 4) .denied = true :=
  ⟨open3_serves .l1, by decide +kernel⟩

/-- WQ0 with 16 ticketed entries; a link at its quota; no FREE ticket. -/
theorem witness_RefusedTicketed_busy :
    let full : State := { open3 with queues := ⟨.replicate 16 (.ticketed 0), []⟩ }
    let quota : State := { queued5 .deferred with quota := ⟨1, 12⟩ }
    let none' : State := { open3 with tickets := .replicate 24 ⟨0, .detached { req with owner := .l1 }⟩ }
    16 ≤ full.ticketedCount .l0 ∧ passes (full.admission .l0 .read 0x00015010 4) recA2 = true ∧
    (quota.ticketedCount .l0 < 16 ∧ quota.quota.get .l0 ≤ quota.holding .l0) ∧
    passes (quota.admission .l0 .write 0x00015010 4) recA2 = true ∧
    (none'.ticketedCount .l0 < 16 ∧ none'.lowestFree = none) := by decide +kernel

theorem witness_TicketedAdmitted : open3.serves .l0 ∧ open3.ticketedCount .l0 < 16 ∧
    open3.holding .l0 < open3.quota.get .l0 ∧ open3.lowestFree = some 0 ∧
    passes (open3.admission .l0 .read 0x00015010 4) recA2 = true ∧ passes (open3.admission .l0 .write 0x00015010 4) recA2 = true ∧
    passes (open3.admission .l1 .read 0x00019000 64) recD2 = true ∧ ([1, 2, 3, 4] : List Byte).length = (4 : Byte).toNat :=
  ⟨open3_serves .l0, by decide +kernel⟩

/-- A link UP without a credit. -/
def noCredit : State := { base with ports := .both { Port.reset with up := true } }

theorem noCredit_serves (n : Link) : noCredit.serves n := by cases n <;> exact ⟨by decide +kernel, by decide +kernel⟩

theorem witness_PostedWrites : open3.serves .l0 ∧ 0 < (open3.port .l0).granted ∧
    passes (open3.admission .l0 .write 0x00014100 4) recA2 = true ∧ noCredit.serves .l0 ∧ (noCredit.port .l0).granted = 0 ∧
    ([1, 2, 3, 4] : List Byte).length = (4 : Byte).toNat ∧ (List.replicate 250 (0 : Byte)).length = (250 : Byte).toNat :=
  ⟨open3_serves .l0, by decide +kernel, by decide +kernel, noCredit_serves .l0, by decide +kernel⟩

theorem witness_DroppedPostedWrites : open3.serves .l1 ∧ 0 < (open3.port .l1).granted ∧
    fails (open3.admission .l1 .write 0x00014100 4) .denied = true ∧ (open3.port .l1).up = true ∧
    (State.reset.port .l1).up = false :=
  ⟨open3_serves .l1, by decide +kernel⟩

/-! ### Witnesses: queues, arbiter and backplane -/

theorem witness_HeadDisposal :
    let off : State := { queued5 .deferred with slots := State.reset.slots }
    let posted : State := { off with queues := ⟨[.posted entry], []⟩ }
    off.resetPin = false ∧ off.online 3 = false ∧ off.queue .l0 = .ticketed 5 :: [.posted entry] ∧
    (off.ticket 5).st = .queued req [] .deferred ∧ req.slot = 3 ∧ posted.queue .l0 = .posted entry :: [] ∧
    entry.slot = 3 := by decide +kernel

theorem witness_Grant :
    let posted : State := { open3 with queues := ⟨[.posted entry], []⟩ }
    let probing : State := { open3 with
      probes := [9], slots := open3.slots.set 9 { Slot.reset with state := .probing .queued .offline } }
    (queued5 .deferred).bpc = .idle ∧ (queued5 .deferred).chosen = some (sourceOf .l0) ∧
    (queued5 .deferred).queue .l0 = .ticketed 5 :: [.posted entry] ∧
    ((queued5 .deferred).ticket 5).st = .queued req [] .deferred ∧ posted.chosen = some (sourceOf .l0) ∧
    posted.queue .l0 = .posted entry :: [] ∧ probing.chosen = some .prq ∧ probing.probes = 9 :: [] ∧
    (probing.slot 9).state = .probing .queued .offline := by decide +kernel

theorem witness_OnlyAGrant : ∃ t, (queued5 .deferred).bpc = .idle ∧ exec .arbiterGrant (queued5 .deferred) = .next t ∧
    t.bpc ≠ .idle := ⟨_, by decide +kernel, rfl, by decide +kernel⟩

theorem witness_Select : (issued5 .deferred).resetPin = false ∧
    (issued5 .deferred).bpc = .addressing (.ticketed 5 req []) none 128 := by decide +kernel

/-- The read of ticket 5 in its beats, and a confirmed and a posted write in theirs. -/
def reading : State := { issued5 .deferred with bpc := .transfer (.ticketed 5 req []) none 128 0 [] }
def writing (op : Operation) (row : Option ModAddr) (i : Nat) : State := { open3 with bpc := .transfer op row 128 i [] }

theorem witness_FailedTransactions :
    (issued5 .deferred).bpc = .addressing (.ticketed 5 req []) none 128 ∧
    (∀ x ∈ (issued5 .deferred).timerEnds, 128 ≤ x) ∧ (∃ x ∈ (issued5 (.direct 40)).timerEnds, x < 128) ∧
    (writing (.ticketed 5 wreq [1, 2, 3, 4]) none 0).bpc = .transfer (.ticketed 5 wreq [1, 2, 3, 4]) none 128 0 [] ∧
    (Operation.ticketed 5 wreq [1, 2, 3, 4]).code = .write ∧
    reading.bpc = .transfer (.ticketed 5 req []) none 128 0 [] ∧ (Operation.ticketed 5 req []).code ≠ .write ∧
    reading.resetPin = false := by decide +kernel

/-- A slot ONLINE below and at the fault limit, and slots PROBING with stage ISSUED and not. -/
theorem witness_SlotReports :
    let probing := open3.slots.set 9 { Slot.reset with state := .probing .issued .offline }
    let s : State := { open3 with slots := probing.set 8 { Slot.reset with state := .online, consecutive := 2 } }
    ((s.slot 8).state = .online ∧ s.faultLimit ≤ (s.slot 8).consecutive + 1) ∧
    ¬((s.slot 3).state = .online ∧ s.faultLimit ≤ (s.slot 3).consecutive + 1) ∧
    (s.slot 9).state = .probing .issued .offline ∧ (s.slot 7).state = .offline := by decide +kernel

theorem witness_WriteBeats :
    ((Operation.postedWrite .l0 entry).code = .write ∧ 2 + 1 < (Operation.postedWrite .l0 entry).beats) ∧
    (wreq.op = .confirmedWrite ∧ wreq.len / wreq.width.toNat ≤ 0 + 1) ∧ entry.len / entry.width.toNat ≤ 3 + 1 ∧
    (writing (.postedWrite .l0 entry) (some 0x004100) 3).continuation .l0 entry (some 0x004100) = none ∧
    ({ writing (.postedWrite .l0 entry) (some 0x004100) 3 with queues := ⟨[.posted entry2], []⟩ } : State).continuation
      .l0 entry (some 0x004100) = some (entry2, []) := by decide +kernel

theorem witness_Runs : (∀ head tail, open3.queue .l0 ≠ .posted head :: tail) ∧
    (entry2.addr.toNat = entry.addr.toNat + entry.len ∧ (0x004100 : ModAddr).toNat ≤ entry2.addr.toNat ∧
      entry2.addr.toNat + entry2.len ≤ (0x004100 : ModAddr).toNat + 64) := ⟨nofun, by decide +kernel⟩

/-- One lane of width 1 sound and not; a last beat of a read and of a probe; a beat that is not the last. -/
theorem witness_ReadBeats :
    ((laneList 0x04030201 0b1000).take 4).all laneSound = false ∧ ((laneList 0x04030201 0b0100).take 4).all laneSound = true ∧
    (Operation.ticketed 5 req []).beats ≤ 0 + 1 ∧ (Operation.ticketed 5 { req with len := 8 } []).beats = 2 ∧
    (Operation.probe 9).code ≠ .write ∧ ((laneList 0 0b1111).take 4).all laneSound = true ∧
    reading.bpc = .transfer (.ticketed 5 req []) none 128 0 [] := by decide +kernel

theorem test_read_data : ∃ t, exec (.readBeatData 0x04030201 0b0100) reading = .next t ∧
    (t.ticket 5).st = .ready req (.data [1, 2, 3, 4]) (some 16000) ∧ t.bpc = .idle :=
  ⟨_, rfl, by decide +kernel, by decide +kernel⟩

theorem witness_AnswersNotAwaited : open3.bpc = .idle ∧
    (issued5 .deferred).bpc = .addressing (.ticketed 5 req []) none 128 ∧
    reading.bpc = .transfer (.ticketed 5 req []) none 128 0 [] ∧ (Operation.ticketed 5 req []).code ≠ .write ∧
    (Operation.postedWrite .l0 entry).code = .write := by decide +kernel

/-! ### Witnesses: slots, notices and management -/

theorem witness_SlotProbeAndFence : base.serves .l0 ∧ base.holdsLease .l0 = true ∧ 16 ≤ (16 : Byte).toNat :=
  ⟨base_serves .l0, by decide +kernel⟩

theorem witness_Alerts : open3.resetPin = false ∧ open3.alertPin[(3 : Fin 16)] = false ∧ open3.online 3 = true ∧
    open3.online 4 = false ∧
    ({ open3 with alertPin := open3.alertPin.set 3 true } : State).alertPin[(3 : Fin 16)] = true := by decide +kernel

theorem witness_Raises :
    let s : State := { base with ports := base.ports.set .l0 { base.port .l0 with enables := 0x20 } }
    ((s.port .l0).up = true ∧ enabledIn (s.port .l0).enables .linkFault = true ∧
      (s.kind .linkFault).sent.get .l0 = false) ∧ enabledIn (s.port .l1).enables .linkFault = false := by decide +kernel

theorem witness_NoticeEnableAndAck : base.serves .l0 ∧ (0 : Byte).toNat = 0 ∧ 9 ≤ (9 : Byte).toNat ∧
    (base.kind .linkFault).latch = .clear :=
  ⟨base_serves .l0, by decide +kernel⟩

theorem witness_ManagementChecked : base.serves .l0 ∧ base.serves .l1 ∧ base.holdsLease .l1 = false ∧
    ([1, 2, 3] : List Byte).length ≠ 2 ∧ (List.replicate 18 (0 : Byte)).length = 18 :=
  ⟨base_serves .l0, base_serves .l1, by decide +kernel⟩

theorem witness_Reads : open3.serves .l0 ∧ open3.serves .l1 ∧ 16 ≤ (16 : Byte).toNat ∧ (0 : Byte).toNat = 0 ∧
    9 ≤ (9 : Byte).toNat := ⟨open3_serves .l0, open3_serves .l1, by decide +kernel⟩

theorem test_identify : ∃ t, exec (.identify .l1 9 []) base = .next t ∧
    (t.port .l1).outbound = [.mgmtReply 9 0x01 .ok [0x53, 0xA1, 0x02, 0x16, 0x03, 1, 32, 24, 16]] :=
  ⟨_, rfl, by decide +kernel⟩

theorem witness_Counters : base.serves .l0 ∧ base.holdsLease .l0 = true ∧ 3 ≤ (3 : Byte).toNat ∧ 2 ≤ (2 : Byte).toNat ∧
    (1 : Byte) ≠ 0 ∧ 16 ≤ (16 : Byte).toNat :=
  ⟨base_serves .l0, by decide +kernel⟩

theorem witness_Lease : base.serves .l0 ∧ base.serves .l1 ∧ ({ base with lease := none } : State).serves .l0 ∧
    base.lease = some ⟨.l0, 10, 1000000⟩ ∧ base.now < 1000000 ∧ 1000000 ≤ base.now + 25500000 ∧ (1 : Byte) ≠ 0 ∧
    (Link.l0 ≠ Link.l1) ∧ base.resetPin = false ∧ (∀ x ∈ base.timerEnds, 1000000 ≤ x) ∧
    (∃ x ∈ ready5.timerEnds, x < 1000000) :=
  ⟨base_serves .l0, base_serves .l1, serves_of _ rfl rfl rfl .l0, by decide +kernel⟩

/-- A gate with work in both modes and a queued probe of slot 9. -/
def busy : State :=
  { queued5 (.direct 40) with
    probes := [9]
    slots := (queued5 (.direct 40)).slots.set 9 { Slot.reset with state := .probing .queued .offline } }

theorem busy_serves (n : Link) : busy.serves n := serves_of _ rfl rfl rfl n

theorem busy_probeLaw : busy.ProbeLaw := by
  have key : ∀ i : Fin 16, busy.probes.count i = (match (busy.slot i).state with
      | .probing .queued _ => 1
      | _ => 0) := by decide +kernel
  exact key

theorem witness_GateReset : busy.serves .l0 ∧ busy.holdsLease .l0 = true ∧ busy.ProbeLaw ∧ base.probes = [] :=
  ⟨busy_serves .l0, by decide +kernel, busy_probeLaw, rfl⟩

/-- The NOTICE of the returned probe on the link that enables it, between the CREDIT and the reply. -/
theorem test_gateReset_notice :
    ∃ t, exec (.gateReset .l0 7 []) { busy with
        ports := busy.ports.set .l0 { busy.port .l0 with enables := 1 } } = .next t ∧
      (t.port .l0).outbound = [.result 1 (.fail .flushed), .credit 1,
        .notice .slotChange 1 (.slotChange 9 .probing .offline .reset 0), .mgmtReply 7 0x52 .ok []] ∧
      (t.kind .slotChange).sent = ⟨true, false⟩ ∧ (t.port .l1).outbound = [] :=
  ⟨_, rfl, by decide +kernel, by decide +kernel, by decide +kernel⟩

theorem test_gateReset : ∃ t, exec (.gateReset .l0 7 []) busy = .next t ∧
    (t.port .l0).outbound = [.result 1 (.fail .flushed), .credit 1, .mgmtReply 7 0x52 .ok []] ∧
    t.ticket 5 = ⟨4, .free⟩ ∧ (t.kind .slotChange).latch = .latched 1 (.slotChange 9 .probing .offline .reset 0) :=
  ⟨_, rfl, by decide +kernel, by decide +kernel, by decide +kernel⟩

/-! ### Witnesses: link ports and formats -/

theorem witness_Hello : State.reset.takesNow .l0 = true ∧ (State.reset.port .l0).up = false ∧
    (State.reset.port .l0).enables = 0 ∧ base.takesNow .l1 = true ∧ (base.port .l1).up = true := by decide +kernel

theorem witness_LossOfSignal : base.resetPin = false ∧ base.losPin.get .l0 = false ∧
    ({ base with losPin := ⟨true, false⟩ } : State).losPin.get .l0 = true := by decide +kernel

/-- A port that withholds taking with 32 outbound frames. -/
def paused : State :=
  { base with ports := .both { Port.reset with up := true, outbound := .replicate 32 (.credit 1) } }

theorem witness_FramesNotServed :
    (soundFrame.crc = frameCrc soundFrame.kind soundFrame.body ∧ soundFrame.kind ∈ ([1, 2, 3, 4, 5, 6, 7] : List Byte)) ∧
    (({ soundFrame with crc := 0 } : RawFrame).crc ≠ frameCrc soundFrame.kind soundFrame.body) ∧
    frameFault (.seal 8 []) = some .unknownKind ∧ frameFault (.seal 0 []) = some .unknownKind ∧
    frameFault (.seal 7 [1]) = some .lengthMismatch ∧ frameFault (.seal 7 [1, 2]) = none ∧
    (State.reset.takesNow .l0 = true ∧ (State.reset.port .l0).up = false ∧ (.seal 7 [1, 2] : RawFrame).kind ≠ 1) ∧
    (paused.resetPin = false ∧ paused.losPin.get .l0 = false ∧ paused.mustWait .l0 = true) ∧
    ({ base with losPin := ⟨true, false⟩ } : State).losPin.get .l0 = true := by decide +kernel

theorem witness_Outbound : paused.resetPin = false ∧ (paused.port .l0).up = true ∧ (paused.port .l0).transmitting = false ∧
    (paused.port .l0).outbound ≠ [] ∧
    (({ base with ports := .both { Port.reset with transmitting := true, outbound := [.credit 1] } } : State).port
      .l0).transmitting = true := by decide +kernel

theorem witness_FramesReadBack : (Instr.claim .l0 1 2 3).wellFormed = true ∧
    encodeFrame (.claim .l0 1 2 3) = some (.seal 5 [1, 2, 3]) ∧
    (∀ f ∈ [soundFrame, .seal 5 [1, 2, 3]], f.body.length ≤ 255) := by decide +kernel

/-! ### Witnesses: states that satisfy the laws, and their steps -/

theorem direct_of_one (s : State) (k : Fin 24) (h : ∀ t, t ≠ k → (s.ticket t).st.isDirect = false) : s.DirectLaw := by
  intro n t u ht _ hu _
  have e : ∀ v, (s.ticket v).st.isDirect = true → v = k := fun v hv =>
    Decidable.byContradiction fun hne => by rw [h v hne] at hv; cases hv
  rw [e t ht, e u hu]

/-- A state with a command at the front of its queue, so that its step is that command's. -/
def next1 (s : State) (c : Instr) : State := { s with pending := [c] }

theorem witness_WindowsStayDisjoint : WindowsDisjoint (next1 open3 .leaseExpiry).active ∧
    ∃ t, step (next1 open3 .leaseExpiry) = .next t := ⟨open3_disjoint, _, rfl⟩

/-- A commit that narrows the NARROW index 0 while index 1 is FROZEN. -/
theorem witness_LocksNeverFall :
    let s := next1 (staged 0 recA2) (.windowCommit .l0 1 [0])
    ¬s.fullResetNext ∧ s.locks[(0 : Fin 32)] = .narrow ∧ s.locks[(1 : Fin 32)] = .frozen ∧
    ∃ t, step s = .next t ∧ s.active[(0 : Fin 32)] = some recA ∧ t.active[(0 : Fin 32)] = some recA2 := by
  refine ⟨?_, by decide +kernel, by decide +kernel, _, rfl, by decide +kernel, by decide +kernel⟩
  rintro ⟨cause, rest, h⟩
  cases h

theorem witness_TicketsStayPlaced : (next1 (queued5 (.direct 40)) .arbiterGrant).TicketLaw ∧
    ∃ t, step (next1 (queued5 (.direct 40)) .arbiterGrant) = .next t := ⟨queued5_law _, _, rfl⟩

theorem witness_OneDirectTicketALink : (next1 (queued5 (.direct 40)) .arbiterGrant).DirectLaw ∧
    ∃ t, step (next1 (queued5 (.direct 40)) .arbiterGrant) = .next t :=
  ⟨direct_of_one _ 5 (by decide +kernel), _, rfl⟩

/-- Law 7 with a posted entry in WQ0 and its credit taken. -/
theorem witness_CreditsAddUp :
    let s : State := { open3 with
      ports := open3.ports.set .l0 { open3.port .l0 with granted := 15 }
      queues := ⟨[.posted entry], []⟩
      pending := [.arbiterGrant] }
    s.CreditLaw ∧ ∃ t, step s = .next t := by
  refine ⟨fun n => ?_, _, rfl⟩
  cases n <;> decide +kernel

/-- A read in its address phase beside a queued probe of slot 9. -/
theorem witness_BackplaneAndSlotLaws :
    let s : State := { issued5 .deferred with
      probes := [9]
      slots := open3.slots.set 9 { Slot.reset with state := .probing .queued .offline }
      pending := [.selectAccept] }
    s.BusLaw ∧ s.ProbeLaw ∧ s.RangeLaw ∧ ∃ t, step s = .next t := by
  intro s
  have key : ∀ i : Fin 16, s.probes.count i = (match (s.slot i).state with
      | .probing .queued _ => 1
      | _ => 0) := by decide +kernel
  refine ⟨?_, key, ⟨fun n => by cases n <;> decide, by decide, by decide, by decide +kernel⟩, _, rfl⟩
  show s.bus.select = some 3
  rfl

/-- The laws of records, lease and notices with windows active, the lease held and a kind latched. -/
theorem witness_RecordLaws :
    let s : State := { open3 with
      kinds := open3.kinds.set 5 ⟨.latched 255 (.linkFault .l0 .crcError), ⟨true, false⟩⟩
      pending := [.leaseExpiry] }
    s.RecordsValid ∧ s.LeaseLaw ∧ s.NoticeLaw ∧ ∃ t, step s = .next t := by
  intro s
  have ha : ∀ i : Fin 32, (match s.active[i] with
      | some r => r.valid
      | none => true) = true := by decide +kernel
  have hs : ∀ i : Fin 32, s.staging[i] = .none := by decide +kernel
  refine ⟨fun i r h => ?_, fun _ => hs, ?_, _, rfl⟩
  · rcases h with h | h
    · have := ha i; rw [h] at this; exact this
    · rw [hs i] at h; cases h
  · intro k
    cases k
    case linkFault => exact ⟨by decide, rfl⟩
    all_goals rfl

/-- The law of the timers with three of them running, and with RESET asserted. -/
theorem witness_TimerLaw : (next1 (issued5 (.direct 40)) .selectWait).TimerLaw ∧
    ({ State.reset with resetPin := true } : State).TimerLaw ∧ (issued5 (.direct 40)).timerEnds = [40, 1000000, 128] ∧
    ∃ t, step (next1 (issued5 (.direct 40)) .selectWait) = .next t :=
  ⟨⟨nofun, fun _ _ => Nat.zero_le _⟩, ⟨fun _ => by decide +kernel, fun _ _ => Nat.zero_le _⟩, by decide +kernel, _, rfl⟩

/-- A READY ticket through a step, one that becomes FREE, and one that becomes READY. -/
theorem witness_ReadyTickets :
    (∃ t, step (next1 ready5 .leaseExpiry) = .next t ∧ t.ticket 5 = ready5.ticket 5) ∧
    (∃ t, step (next1 ready5 (.discardExpiry 5)) = .next t ∧ (t.ticket 5).st = .free) ∧
    (∃ t, step (next1 reading (.readBeatData 0x04030201 0b0100)) = .next t ∧
      (t.ticket 5).st = .ready req (.data [1, 2, 3, 4]) (some 16000)) :=
  ⟨⟨_, rfl, by decide +kernel⟩, ⟨_, rfl, by decide +kernel⟩, ⟨_, rfl, by decide +kernel⟩⟩

end Sys2Proof.Tests
end

/-! PROOF. The statements of 00_scope.md: full reset, and the frames that are not served. Before them the facts about
every command: what an arrival does in each state of the port, which commands are arrivals and which are events, and
which command a frame is. -/

namespace Sys2Proof.Machine

/-! ### What an arrival does in each state of the port -/

/-- While RESET or the loss-of-signal input is asserted, a frame is discarded (R1, R185; log 8). -/
theorem State.arrive_stopped (s : State) (n : Link) (f : Option RawFrame) (take : State → State)
    (h : s.resetPin = true ∨ s.losPin.get n = true) : s.arrive n f take = s := if_pos h

/-- A frame that must wait is put to the receiver (R185). -/
theorem State.arrive_mustWait (s : State) (n : Link) (f : RawFrame) (take : State → State) (hr : s.resetPin = false)
    (hl : s.losPin.get n = false) (hw : s.mustWait n = true) : s.arrive n (some f) take = s.waitAtReceiver n f := by
  unfold State.arrive
  rw [if_neg (by simp [hr, hl]), if_pos hw]

/-- A receiver with room keeps the frame behind the waiting ones (log 7). -/
theorem State.waitAtReceiver_room (s : State) (n : Link) (f : RawFrame) (h : Config.receiverHolds s.free = true) :
    s.waitAtReceiver n f =
      { s with
        free := s.free + 1
        ports := s.ports.set n { s.port n with waiting := (s.port n).waiting ++ [f] } } :=
  if_pos h

/-- A full receiver discards the frame (log 7). -/
theorem State.waitAtReceiver_full (s : State) (n : Link) (f : RawFrame) (h : Config.receiverHolds s.free = false) :
    s.waitAtReceiver n f = { s with free := s.free + 1 } :=
  if_neg (by simp [h])

/-! ### Arrivals and events -/

/-- The command is the arrival of a frame on a link, and `take` is what its taking does (log 6). -/
def Arrives (c : Instr) (n : Link) (f : Option RawFrame) (take : State → State) : Prop :=
  ∀ s, exec c s = .next (s.arrive n f take)

/-- The command is an event that is not taken while RESET stays asserted (R1). -/
def IsEvent (c : Instr) (act : State → State) : Prop := ∀ s, exec c s = .next (s.unlessReset act)

/-- Every command but FULL_RESET, LOSS_OF_SIGNAL and ALERT_ASSERTION is the arrival of a frame or an event. -/
theorem arrives_or_isEvent (c : Instr) (hfull : ∀ cause, c ≠ .fullReset cause)
    (hlos : ∀ n b, c ≠ .lossOfSignal n b) (halert : ∀ i b, c ≠ .alertAssertion i b) :
    (∃ n f take, Arrives c n f take) ∨ ∃ act, IsEvent c act := by
  cases c with
  | fullReset cause => exact absurd rfl (hfull cause)
  | lossOfSignal n b => exact absurd rfl (hlos n b)
  | alertAssertion i b => exact absurd rfl (halert i b)
  | holdExpiry | discardExpiry | leaseExpiry | phaseTimerExpiry | selectAccept | selectReject | selectWait
  | writeBeatAccept | writeBeatError | readBeatData | readBeatError | arbiterGrant | headDisposal
  | outboundFrameSent | transmissionBegins => exact .inr ⟨_, fun _ => rfl⟩
  | _ => exact .inl ⟨_, _, _, fun _ => rfl⟩

theorem frameWaitsAtReceiver_arrives (n : Link) (f : RawFrame) :
    Arrives (.frameWaitsAtReceiver n f) n (some f) fun s =>
      s.updPort n fun p => { p with waiting := p.waiting ++ [f] } := fun _ => rfl

theorem Arrives.exec_stopped {c : Instr} {n : Link} {f : Option RawFrame} {take : State → State}
    (h : Arrives c n f take) (s : State) (hs : s.resetPin = true ∨ s.losPin.get n = true) : exec c s = .next s := by
  rw [h s, s.arrive_stopped n f take hs]

theorem Arrives.exec_takesNow {c : Instr} {n : Link} {f : Option RawFrame} {take : State → State}
    (h : Arrives c n f take) (s : State) (hs : s.takesNow n = true) : exec c s = .next (take s) := by
  rw [h s, s.arrive_takesNow n f take hs]

theorem Arrives.exec_mustWait {c : Instr} {n : Link} {f : RawFrame} {take : State → State}
    (h : Arrives c n (some f) take) (s : State) (hr : s.resetPin = false) (hl : s.losPin.get n = false)
    (hw : s.mustWait n = true) : exec c s = .next (s.waitAtReceiver n f) := by
  rw [h s, s.arrive_mustWait n f take hr hl hw]

theorem IsEvent.exec_resetPin {c : Instr} {act : State → State} (h : IsEvent c act) (s : State)
    (hr : s.resetPin = true) : exec c s = .next s := by
  rw [h s, State.unlessReset, if_pos hr]

/-! ### Byte order -/

/-- The bytes of a 32-bit value put together from four bytes are those bytes (R200). -/
theorem be32_ofBe32 (b3 b2 b1 b0 : Byte) : be32 (ofBe32 b3 b2 b1 b0) = [b3, b2, b1, b0] := by
  simp only [be32, ofBe32, List.cons.injEq, and_true]
  refine ⟨?_, ?_, ?_, ?_⟩ <;> (ext i hi; grind)

/-! ### The checks of a link port on an inbound frame (R186) -/

/-- The body length that each inbound kind requires (R201, R203). -/
def bodyFits (kind : Byte) (body : List Byte) : Prop :=
  match kind.toNat with
  | 1 => body.length = 0
  | 2 => body.length = 6
  | 3 => body[4]?.map (fun l => 5 + l.toNat) = some body.length
  | 4 => body[5]?.map (fun l => 6 + l.toNat) = some body.length
  | 7 => 2 ≤ body.length
  | _ => body.length = 3

theorem inboundKind_iff (k : Byte) : inboundKind k = true ↔ k ∈ ([1, 2, 3, 4, 5, 6, 7] : List Byte) := by
  unfold inboundKind
  rw [decide_eq_true_iff]
  simp only [Config.kindHello, Config.kindRead, Config.kindWrite, Config.kindWriteConfirmed, Config.kindClaim,
    Config.kindCancel, Config.kindMgmt, List.mem_cons, List.not_mem_nil, or_false]

/-- The body of a frame of an inbound kind is read as a command exactly when it has the length its kind requires. -/
theorem decodeBody_eq_none_iff (n : Link) (kind : Byte) (body : List Byte) (hk : inboundKind kind = true) :
    decodeBody n kind body = none ↔ ¬bodyFits kind body := by
  simp only [inboundKind_iff, List.mem_cons, List.not_mem_nil, or_false] at hk
  simp only [decodeBody, Config.kindHello, Config.kindRead, Config.kindWrite, Config.kindWriteConfirmed,
    Config.kindClaim, Config.kindCancel, Config.kindMgmt]
  rcases hk with rfl | rfl | rfl | rfl | rfl | rfl | rfl
  · -- HELLO
    cases body <;> simp [bodyFits]
  · -- READ
    rcases body with _ | ⟨_, _ | ⟨_, _ | ⟨_, _ | ⟨_, _ | ⟨_, _ | ⟨_, _ | ⟨_, _⟩⟩⟩⟩⟩⟩⟩ <;> simp [bodyFits]
  · -- WRITE
    rcases body with _ | ⟨_, _ | ⟨_, _ | ⟨_, _ | ⟨_, _ | ⟨_, _⟩⟩⟩⟩⟩ <;> simp [bodyFits]
    omega
  · -- WRITE_CONFIRMED
    rcases body with _ | ⟨_, _ | ⟨_, _ | ⟨_, _ | ⟨_, _ | ⟨_, _ | ⟨_, _⟩⟩⟩⟩⟩⟩ <;> simp [bodyFits]
    omega
  · -- CLAIM
    rcases body with _ | ⟨_, _ | ⟨_, _ | ⟨_, _ | ⟨_, _⟩⟩⟩⟩ <;> simp [bodyFits]
  · -- CANCEL
    rcases body with _ | ⟨_, _ | ⟨_, _ | ⟨_, _ | ⟨_, _⟩⟩⟩⟩ <;> simp [bodyFits]
  · -- MGMT
    rcases body with _ | ⟨_, _ | ⟨_, _⟩⟩ <;> simp [bodyFits]

/-- The first check of R186: the CRC. -/
theorem frameFault_of_crc (f : RawFrame) (h : f.crc ≠ frameCrc f.kind f.body) : frameFault f = some .crcError :=
  if_pos h

/-- The second check of R186: the kind. -/
theorem frameFault_of_kind (f : RawFrame) (hc : f.crc = frameCrc f.kind f.body) (hk : inboundKind f.kind = false) :
    frameFault f = some .unknownKind := by
  rw [frameFault, if_neg (not_not_intro hc), if_pos hk]

/-- The third check of R186: the shape. -/
theorem frameFault_of_shape (f : RawFrame) (hc : f.crc = frameCrc f.kind f.body) (hk : inboundKind f.kind = true)
    (hb : ¬bodyFits f.kind f.body) : frameFault f = some .lengthMismatch := by
  rw [frameFault, if_neg (not_not_intro hc), if_neg (by simp [hk]), if_pos ((decodeBody_eq_none_iff _ _ _ hk).2 hb)]

/-- A sound frame is one that passes the three checks of R186. -/
theorem frameFault_eq_none_iff (f : RawFrame) :
    frameFault f = none ↔ f.crc = frameCrc f.kind f.body ∧ inboundKind f.kind = true ∧ bodyFits f.kind f.body := by
  constructor
  · intro h
    by_cases hc : f.crc = frameCrc f.kind f.body
    · cases hk : inboundKind f.kind with
      | false => cases h.symm.trans (frameFault_of_kind f hc hk)
      | true =>
        by_cases hb : bodyFits f.kind f.body
        · exact ⟨hc, rfl, hb⟩
        · cases h.symm.trans (frameFault_of_shape f hc hk hb)
    · cases h.symm.trans (frameFault_of_crc f hc)
  · rintro ⟨hc, hk, hb⟩
    rw [frameFault, if_neg (not_not_intro hc), if_neg (by simp [hk]),
      if_neg fun hn => (decodeBody_eq_none_iff _ _ _ hk).1 hn hb]

/-! ### Which command a frame is -/

/-- The command that a body of a kind carries on a link (R201, R203), one case for each inbound kind. -/
inductive Carries (n : Link) : Byte → List Byte → Instr → Prop
  | hello : Carries n Config.kindHello [] (.hello n)
  | read (t a3 a2 a1 a0 l : Byte) :
      Carries n Config.kindRead [t, a3, a2, a1, a0, l] (.read n t (ofBe32 a3 a2 a1 a0) l)
  | write (a3 a2 a1 a0 l : Byte) (d : List Byte) (h : d.length = l.toNat) :
      Carries n Config.kindWrite (a3 :: a2 :: a1 :: a0 :: l :: d) (.write n (ofBe32 a3 a2 a1 a0) l d)
  | writeConfirmed (t a3 a2 a1 a0 l : Byte) (d : List Byte) (h : d.length = l.toNat) :
      Carries n Config.kindWriteConfirmed (t :: a3 :: a2 :: a1 :: a0 :: l :: d)
        (.writeConfirmed n t (ofBe32 a3 a2 a1 a0) l d)
  | claim (t num gen : Byte) : Carries n Config.kindClaim [t, num, gen] (.claim n t num gen)
  | cancel (t num gen : Byte) : Carries n Config.kindCancel [t, num, gen] (.cancel n t num gen)
  | mgmt (t code : Byte) (ops : List Byte) : Carries n Config.kindMgmt (t :: code :: ops) (mgmtInstr n t code ops)

/-- `Carries` is what the decoder of the model reads. -/
theorem decodeBody_eq_some_iff (n : Link) (kind : Byte) (body : List Byte) (c : Instr) :
    decodeBody n kind body = some c ↔ Carries n kind body c := by
  constructor
  · intro h
    unfold decodeBody at h
    -- The branches that answer none contradict `h`; in every other one the body is the pattern of its kind.
    repeat' split at h
    all_goals cases h
    all_goals subst_vars
    all_goals constructor
    all_goals assumption
  · intro h
    cases h with
    | hello => rfl
    | read => rfl
    | write _ _ _ _ _ _ h => exact if_pos h
    | writeConfirmed _ _ _ _ _ _ _ h => exact if_pos h
    | claim => rfl
    | cancel => rfl
    | mgmt => rfl

/-- The command is a management command with this tag, code and operand bytes: its frame carries them, and it is
dispatched when it is taken (R158, R187). -/
def IsMgmt (n : Link) (t code : Byte) (ops : List Byte) (c : Instr) : Prop :=
  encodeFrame c = some (mgmtFrame t code ops) ∧ ∃ act, Arrives c n (encodeFrame c) (·.dispatch n act)

theorem isMgmt_mgmtInstr (n : Link) (t code : Byte) (ops : List Byte) :
    IsMgmt n t code ops (mgmtInstr n t code ops) := by
  unfold mgmtInstr
  repeat' refine iteInduction (motive := IsMgmt n t code ops) (fun h => ?_) fun _ => ?_
  all_goals
    subst_vars
    exact ⟨rfl, _, fun _ => rfl⟩

/-- The frame of a command that a body carries has that body (R200). -/
theorem Carries.encodeFrame_eq {n : Link} {kind : Byte} {body : List Byte} {c : Instr} (h : Carries n kind body c) :
    encodeFrame c = some (.seal kind body) := by
  cases h with
  | hello => rfl
  | read => simp [encodeFrame, be32_ofBe32]
  | write => simp [encodeFrame, writeBody, be32_ofBe32]
  | writeConfirmed => simp [encodeFrame, writeBody, be32_ofBe32]
  | claim => rfl
  | cancel => rfl
  | mgmt t code ops => exact (isMgmt_mgmtInstr n t code ops).1

/-- A frame that fails a check is the command FRAME_DROP. -/
theorem decodeFrame_of_fault (n : Link) (f : RawFrame) (why : DropReason) (h : frameFault f = some why) :
    decodeFrame n f = .frameDrop n f := by
  simp only [decodeFrame, h]

/-- A sound frame is the command that its body carries. -/
theorem carries_decodeFrame (n : Link) (f : RawFrame) (h : frameFault f = none) :
    Carries n f.kind f.body (decodeFrame n f) := by
  obtain ⟨_, hk, hb⟩ := (frameFault_eq_none_iff f).1 h
  cases hd : decodeBody n f.kind f.body with
  | none => exact absurd hb ((decodeBody_eq_none_iff n _ _ hk).1 hd)
  | some c =>
    simp only [decodeFrame, h, hd, Option.getD_some]
    exact (decodeBody_eq_some_iff n _ _ c).1 hd

/-- The command of any frame carries that frame (R200, R201, R203). -/
theorem encodeFrame_decodeFrame (n : Link) (f : RawFrame) : encodeFrame (decodeFrame n f) = some f := by
  cases h : frameFault f with
  | some why => rw [decodeFrame_of_fault n f why h]; rfl
  | none =>
    rw [(carries_decodeFrame n f h).encodeFrame_eq, RawFrame.seal, ← ((frameFault_eq_none_iff f).1 h).1]

/-- A command that a body carries is the arrival of its frame. -/
theorem arrives_of_carries {n : Link} {kind : Byte} {body : List Byte} {c : Instr} (h : Carries n kind body c) :
    ∃ take, Arrives c n (encodeFrame c) take := by
  cases h with
  | mgmt t code ops =>
    obtain ⟨_, act, h⟩ := isMgmt_mgmtInstr n t code ops
    exact ⟨_, h⟩
  | _ => exact ⟨_, fun _ => rfl⟩

/-- A WRITE whose data are as many as its length names, and can stand in a frame, is dispatched (R187, log 11). -/
theorem takeWrite_fits (n : Link) (a : UpAddr) (l : Byte) (d : List Byte) (h : d.length = l.toNat ∧ d.length ≤ 250) :
    takeWrite n a l d = (·.dispatch n fun s => s.creditedWrite n a l.toNat d) := funext fun _ => if_pos h

/-- As `takeWrite_fits`, for WRITE_CONFIRMED. -/
theorem takeWriteConfirmed_fits (n : Link) (t : Byte) (a : UpAddr) (l : Byte) (d : List Byte)
    (h : d.length = l.toNat ∧ d.length ≤ 249) :
    takeWriteConfirmed n t a l d = (·.dispatch n fun s => s.ticketedRequest n t .confirmedWrite a l.toNat d) :=
  funext fun _ => if_pos h

/-- A command other than HELLO that a body carries is dispatched when it is taken (R187); the body is one that its
length byte can tell. -/
theorem dispatched_of_carries {n : Link} {kind : Byte} {body : List Byte} {c : Instr} (h : Carries n kind body c)
    (hk : kind ≠ Config.kindHello) (hlen : body.length ≤ 255) :
    ∃ act, Arrives c n (encodeFrame c) (·.dispatch n act) := by
  cases h with
  | hello => exact absurd rfl hk
  | read => exact ⟨_, fun _ => rfl⟩
  | write a3 a2 a1 a0 l d h =>
    have hfit : d.length = l.toNat ∧ d.length ≤ 250 := ⟨h, by simp only [List.length_cons] at hlen; omega⟩
    have harr : Arrives (.write n (ofBe32 a3 a2 a1 a0) l d) n _ (takeWrite n (ofBe32 a3 a2 a1 a0) l d) := fun _ => rfl
    rw [takeWrite_fits n _ l d hfit] at harr
    exact ⟨_, harr⟩
  | writeConfirmed t a3 a2 a1 a0 l d h =>
    have hfit : d.length = l.toNat ∧ d.length ≤ 249 := ⟨h, by simp only [List.length_cons] at hlen; omega⟩
    have harr : Arrives (.writeConfirmed n t (ofBe32 a3 a2 a1 a0) l d) n _
        (takeWriteConfirmed n t (ofBe32 a3 a2 a1 a0) l d) := fun _ => rfl
    rw [takeWriteConfirmed_fits n t _ l d hfit] at harr
    exact ⟨_, harr⟩
  | claim => exact ⟨_, fun _ => rfl⟩
  | cancel => exact ⟨_, fun _ => rfl⟩
  | mgmt t code ops => exact (isMgmt_mgmtInstr n t code ops).2

/-- The command of any frame is the arrival of that frame. -/
theorem decodeFrame_arrives (n : Link) (f : RawFrame) : ∃ take, Arrives (decodeFrame n f) n (some f) take := by
  rw [← encodeFrame_decodeFrame n f]
  cases h : frameFault f with
  | some why => rw [decodeFrame_of_fault n f why h]; exact ⟨_, fun _ => rfl⟩
  | none => exact arrives_of_carries (carries_decodeFrame n f h)

/-! ### Frames that are not served -/

/-- R186: a frame taken that fails a check is dropped for the first one it fails. -/
theorem exec_frameDrop (s : State) (n : Link) (f : RawFrame) (why : DropReason) (hs : s.takesNow n = true)
    (hf : frameFault f = some why) : exec (.frameDrop n f) s = .next (s.dropFrame n why) := by
  have harr : Arrives (.frameDrop n f) n (some f) (takeFrameDrop n f) := fun _ => rfl
  rw [harr.exec_takesNow s hs]
  simp only [takeFrameDrop, hf]

/-- R187: a sound frame other than HELLO taken on a DOWN link is a down-drop. -/
theorem exec_decodeFrame_down (s : State) (n : Link) (f : RawFrame) (hs : s.takesNow n = true)
    (hdown : (s.port n).up = false) (hlen : f.body.length ≤ 255) (hf : frameFault f = none)
    (hk : f.kind ≠ Config.kindHello) :
    exec (decodeFrame n f) s =
      .next { s with ports := s.ports.set n { s.port n with downDrops := rise (s.port n).downDrops } } := by
  obtain ⟨act, harr⟩ := dispatched_of_carries (carries_decodeFrame n f hf) hk hlen
  rw [harr.exec_takesNow s hs, s.dispatch_down n act hdown]

/-- R186: the first check that a frame fails, over the lengths of R201 and R203. -/
theorem frameFault_spec (f : RawFrame) :
    (f.crc ≠ frameCrc f.kind f.body → frameFault f = some .crcError) ∧
    (f.crc = frameCrc f.kind f.body → f.kind ∉ ([1, 2, 3, 4, 5, 6, 7] : List Byte) →
      frameFault f = some .unknownKind) ∧
    (f.crc = frameCrc f.kind f.body → f.kind ∈ ([1, 2, 3, 4, 5, 6, 7] : List Byte) →
      (bodyFits f.kind f.body → frameFault f = none) ∧
      (¬bodyFits f.kind f.body → frameFault f = some .lengthMismatch)) := by
  simp only [← inboundKind_iff, Bool.not_eq_true]
  exact ⟨frameFault_of_crc f, frameFault_of_kind f, fun hc hk =>
    ⟨fun hb => (frameFault_eq_none_iff f).2 ⟨hc, hk, hb⟩, frameFault_of_shape f hc hk⟩⟩

/-- Settles O58: the checks by the lengths of each kind; an arrival by the state of the port, since the command of any
frame is the arrival of that frame. -/
theorem framesThatAreNotServed : Obligations.FramesThatAreNotServed := by
  refine ⟨frameFault_spec, fun s n f => ?_⟩
  obtain ⟨take, harr⟩ := decodeFrame_arrives n f
  have hwaits := frameWaitsAtReceiver_arrives n f
  refine ⟨exec_frameDrop s n f, exec_decodeFrame_down s n f,
    fun hr hl hw => ⟨fun hroom => ?_, fun hfull => ?_⟩, fun hs => hwaits.exec_takesNow s hs,
    fun hs => ⟨harr.exec_stopped s hs, hwaits.exec_stopped s hs⟩⟩
  · rw [← s.waitAtReceiver_room n f hroom]
    exact ⟨harr.exec_mustWait s hr hl hw, hwaits.exec_mustWait s hr hl hw⟩
  · rw [← s.waitAtReceiver_full n f hfull]
    exact ⟨harr.exec_mustWait s hr hl hw, hwaits.exec_mustWait s hr hl hw⟩

/-! ### Full reset and the RESET input -/

theorem exec_powerOn (s : State) : exec (.fullReset .powerOn) s = .next (s.cleared s.resetPin) := rfl

/-- The change of RESET from deasserted to asserted is a full reset (R1). -/
theorem exec_resetInput_assert (s : State) (h : s.resetPin = false) :
    exec (.fullReset (.resetInput true)) s = .next (s.cleared true) :=
  congrArg Host.Outcome.next (if_neg (by simp [h]))

/-- An assertion of an asserted RESET is no change (R1, log 2). -/
theorem exec_resetInput_again (s : State) (h : s.resetPin = true) :
    exec (.fullReset (.resetInput true)) s = .next s :=
  congrArg Host.Outcome.next (if_pos h)

/-- A change of LOSn that is no event, because it is a deassertion, a repeated level, or made while RESET is asserted:
the level is recorded (R1, R191; log 2). -/
theorem exec_lossOfSignal_recorded (s : State) (n : Link) (b : Bool)
    (h : ¬(b = true ∧ s.losPin.get n = false ∧ s.resetPin = false)) :
    exec (.lossOfSignal n b) s = .next { s with losPin := s.losPin.set n b } :=
  congrArg Host.Outcome.next (if_neg h)

/-- A change of an alert input that raises nothing: the level is recorded (R1, R138; log 2). -/
theorem exec_alertAssertion_recorded (s : State) (i : Fin 16) (b : Bool)
    (h : ¬(b = true ∧ s.alertPin[i] = false ∧ s.resetPin = false ∧ s.online i = true)) :
    exec (.alertAssertion i b) s = .next { s with alertPin := s.alertPin.set i b } :=
  congrArg Host.Outcome.next (if_neg h)

/-- While RESET is asserted, a command that carries no input level changes nothing (R1). -/
theorem exec_of_resetPin (s : State) (hr : s.resetPin = true) (c : Instr) (hfull : ∀ cause, c ≠ .fullReset cause)
    (hlos : ∀ n b, c ≠ .lossOfSignal n b) (halert : ∀ i b, c ≠ .alertAssertion i b) : exec c s = .next s := by
  rcases arrives_or_isEvent c hfull hlos halert with ⟨n, f, take, harr⟩ | ⟨act, hev⟩
  · exact harr.exec_stopped s (.inl hr)
  · exact hev.exec_resetPin s hr

/-- A repeated assertion of LOSn changes nothing (R191). -/
theorem exec_lossOfSignal_again (s : State) (n : Link) (h : s.losPin.get n = true) :
    exec (.lossOfSignal n true) s = .next s := by
  have hset : s.losPin.set n true = s.losPin := by rw [← h, PerLink.set_get]
  rw [exec_lossOfSignal_recorded s n true (by simp [h]), hset]

/-- A repeated assertion of an alert input changes nothing (R138). -/
theorem exec_alertAssertion_again (s : State) (i : Fin 16) (h : s.alertPin[i] = true) :
    exec (.alertAssertion i true) s = .next s := by
  have hset : s.alertPin.set i true = s.alertPin := by rw [← h]; exact Vector.set_getElem_self _
  rw [exec_alertAssertion_recorded s i true (by simp [h]), hset]

/-- Settles O4: the commands of the three kinds of input by their rules, every other one as an arrival or an event. -/
theorem fullResetAndTheResetInput : Obligations.FullResetAndTheResetInput := fun s =>
  ⟨exec_powerOn s, exec_resetInput_assert s, exec_resetInput_again s, rfl,
    fun hr n b => exec_lossOfSignal_recorded s n b (by simp [hr]),
    fun hr i b => exec_alertAssertion_recorded s i b (by simp [hr]),
    exec_of_resetPin s, exec_lossOfSignal_again s, exec_alertAssertion_again s⟩

/-- No source is eligible after a full reset: the queues and the probe queue are empty (R89). -/
theorem State.cleared_chosen (s : State) (b : Bool) : (s.cleared b).chosen = none := rfl

/-- Settles O5: every field is read in the state that power-on leaves, each entry of a table in its replicated value. -/
theorem fullResetLeavesTheStatedValues : Obligations.FullResetLeavesTheStatedValues := by
  intro s
  exact ⟨s.cleared s.resetPin, exec_powerOn s,
    fun _ => ⟨Vector.getElem_replicate _, Vector.getElem_replicate _, Vector.getElem_replicate _⟩,
    fun _ => Vector.getElem_replicate _, rfl, rfl, rfl, rfl, rfl, rfl, rfl, s.cleared_chosen _, rfl, rfl, rfl,
    fun _ => Vector.getElem_replicate _, rfl, fun _ => Vector.getElem_replicate _, rfl,
    fun n => ⟨PerLink.get_both _ n, PerLink.get_both _ n⟩⟩

end Sys2Proof.Machine

/-! PROOF. The statements of 03_request_admission.md: the checks of admission, ticketed requests that are refused, and
posted writes. Before the statements of each, what the operations of the admission unit do in each of their cases. -/

namespace Sys2Proof.Machine

/-! ### Check 1 -/

theorem lengthInRow_iff (a : UpAddr) (len : Nat) :
    lengthInRow a len = true ↔ 1 ≤ len ∧ len ≤ 64 ∧ a.toNat % 64 + len ≤ 64 := by
  simp only [lengthInRow, decide_eq_true_eq]

/-- The last byte of a run is in the row of its start exactly when every byte is (R63). -/
theorem forall_sameRow_iff (x len : Nat) (hpos : 1 ≤ len) :
    (∀ k, k < len → (x + k) / 64 = x / 64) ↔ x % 64 + len ≤ 64 := by
  constructor
  · intro hrow
    have hlast := hrow (len - 1) (by omega)
    omega
  · intro hfit k hk
    omega

theorem lengthInRow_iff_sameRow (a : UpAddr) (len : Nat) :
    lengthInRow a len = true ↔ 1 ≤ len ∧ len ≤ 64 ∧ ∀ k, k < len → (a.toNat + k) / 64 = a.toNat / 64 := by
  rw [lengthInRow_iff]
  exact and_congr_right fun hpos => and_congr_right fun _ => (forall_sameRow_iff a.toNat len hpos).symm

/-- A request within one row ends below the top of the space, since the top is the end of a row (R63). -/
theorem end_le_of_lengthInRow (a : UpAddr) (len : Nat) (h : lengthInRow a len = true) :
    a.toNat + len ≤ 0x100000000 := by
  obtain ⟨_, _, hfit⟩ := (lengthInRow_iff a len).1 h
  have htop := a.isLt
  omega

/-! ### The checks of admission -/

/-- Check 1 comes first, so its failure does not depend on the windows (R62, R63). -/
theorem State.admission_outsideRow (s : State) (n : Link) (need : Permission) (a : UpAddr) (len : Nat)
    (h : lengthInRow a len = false) : s.admission n need a len = .error .badLength := if_pos h

/-- Check 2 of a request in one row (R64). -/
theorem State.admission_noWindow (s : State) (n : Link) (need : Permission) (a : UpAddr) (len : Nat)
    (hrow : lengthInRow a len = true) (hw : lookup s.active a = none) :
    s.admission n need a len = .error .noWindow := by
  unfold State.admission
  rw [if_neg (by simp [hrow]), hw]

/-- A lookup returns the same index as another exactly when it finds that index with some record (R65). -/
theorem lookup_index_ne_iff (active : Vector (Option WindowRecord) 32) (a : UpAddr) (i : Fin 32) :
    (lookup active a).map (·.1) ≠ some i ↔ ∀ q, lookup active a ≠ some (i, q) := by
  simp [Option.map_eq_some_iff]

/-- Checks 3 to 5 of a request in one row with its resolving window (R65 to R67). -/
theorem State.admission_resolved (s : State) (n : Link) (need : Permission) (a : UpAddr) (len : Nat) (i : Fin 32)
    (r : WindowRecord) (hrow : lengthInRow a len = true) (hw : lookup s.active a = some (i, r)) :
    s.admission n need a len =
      if (lookup s.active (lastByte a len)).map (·.1) ≠ some i then .error .badLength
      else if (r.rights.get n).permits need = false then .error .denied
      else if aligned r.width a len = false then .error .badAlign
      else .ok r := by
  unfold State.admission
  rw [if_neg (by simp [hrow]), hw]

theorem aligned_iff (w : Width) (a : UpAddr) (len : Nat) :
    aligned w a len = true ↔ a.toNat % w.toNat = 0 ∧ len % w.toNat = 0 := by
  simp only [aligned, decide_eq_true_eq]

/-- A request that passes the checks is at most 64 bytes long (R63). -/
theorem State.len_le_of_admission {s : State} {n : Link} {need : Permission} {a : UpAddr} {len : Nat}
    {w : WindowRecord} (h : s.admission n need a len = .ok w) : len ≤ 64 := by
  cases hrow : lengthInRow a len with
  | true => exact ((lengthInRow_iff a len).1 hrow).2.1
  | false => rw [s.admission_outsideRow n need a len hrow] at h; cases h

/-- Settles O29: each wording of the check by its lemma; a failure of check 1 is the first branch of admission. -/
theorem lengthAndRowCheck : Obligations.LengthAndRowCheck := fun a len =>
  ⟨lengthInRow_iff_sameRow a len, lengthInRow_iff a len, end_le_of_lengthInRow a len,
    fun hfail s n need => s.admission_outsideRow n need a len hfail⟩

/-- Settles O30: along the order of the checks, each step with the checks before it passed. -/
theorem admissionChecksInOrder : Obligations.AdmissionChecksInOrder := by
  intro s n need a len
  refine ⟨s.admission_outsideRow n need a len, fun hrow =>
    ⟨s.admission_noWindow n need a len hrow, fun i r hw => ?_⟩⟩
  have helse := lookup_index_ne_iff s.active (lastByte a len) i
  simp only [s.admission_resolved n need a len i r hrow hw, ← aligned_iff]
  refine ⟨fun hother => if_pos (helse.2 hother), fun q hsame => ?_⟩
  rw [if_neg fun hne => helse.1 hne q hsame]
  refine ⟨fun hdenied => if_pos hdenied, fun hright => ?_⟩
  rw [if_neg (by simp [hright])]
  exact ⟨fun halign => if_neg (by simp [halign]), fun halign => if_pos (by simpa using halign)⟩

/-! ### Ticketed requests that are refused -/

/-- A served READ is put to the admission unit (R59). -/
theorem exec_read_serves (s : State) (n : Link) (tag : Byte) (a : UpAddr) (len : Byte) (hs : s.serves n) :
    exec (.read n tag a len) s = .next ((s.counted n).ticketedRequest n tag .read a len.toNat []) :=
  congrArg Host.Outcome.next (s.dispatch_serves n _ _ hs)

/-- A served WRITE_CONFIRMED whose data fit its length and a frame is put to the admission unit (R59). -/
theorem exec_writeConfirmed_serves (s : State) (n : Link) (tag : Byte) (a : UpAddr) (len : Byte) (data : List Byte)
    (hs : s.serves n) (hlen : data.length = len.toNat) (hmax : data.length ≤ 249) :
    exec (.writeConfirmed n tag a len data) s =
      .next ((s.counted n).ticketedRequest n tag .confirmedWrite a len.toNat data) := by
  have harr : Arrives (.writeConfirmed n tag a len data) n _ (takeWriteConfirmed n tag a len data) := fun _ => rfl
  rw [harr s, takeWriteConfirmed_fits n tag a len data ⟨hlen, hmax⟩, s.dispatch_serves n _ _ hs]

/-- The checks read the windows alone, which the counting of a frame keeps. -/
@[simp] theorem State.counted_admission (s : State) (n m : Link) (need : Permission) (a : UpAddr) (len : Nat) :
    (s.counted n).admission m need a len = s.admission m need a len := rfl

theorem State.ticketedRequest_fails (s : State) (n : Link) (tag : Byte) (op : TicketOp) (a : UpAddr) (len : Nat)
    (data : List Byte) (why : FailReason) (h : s.admission n op.permission a len = .error why) :
    s.ticketedRequest n tag op a len data = s.form n (.result tag (.fail why)) := by
  simp only [State.ticketedRequest, h]

theorem State.ticketedRequest_passes (s : State) (n : Link) (tag : Byte) (op : TicketOp) (a : UpAddr) (len : Nat)
    (data : List Byte) (w : WindowRecord) (h : s.admission n op.permission a len = .ok w) :
    s.ticketedRequest n tag op a len data = s.admitTicketed w (w.request n tag op a len) data := by
  simp only [State.ticketedRequest, h]

/-- Why a ticketed request of a link is refused for a resource: its queue first, then the ticket table (R70, R71). -/
def State.refusesFor (s : State) (n : Link) (cause : BusyCause) : Prop :=
  (cause = .queueFull ∧ 16 ≤ s.ticketedCount n) ∨
    (cause = .noTicketGranted ∧ s.ticketedCount n < 16 ∧ (s.quota.get n ≤ s.holding n ∨ s.lowestFree = none))

/-- Counting a frame keeps the queues and the tickets. -/
theorem State.counted_refusesFor (s : State) (n m : Link) (cause : BusyCause) :
    (s.counted n).refusesFor m cause ↔ s.refusesFor m cause := Iff.rfl

theorem State.admitTicketed_refused (s : State) (w : WindowRecord) (r : Request) (data : List Byte)
    (cause : BusyCause) (h : s.refusesFor r.owner cause) :
    s.admitTicketed w r data = s.refuseBusy r.owner r.tag r.upstream cause := by
  unfold State.admitTicketed
  obtain ⟨rfl, hfull⟩ | ⟨rfl, hroom, hticket⟩ := h
  · exact if_pos hfull
  · rw [if_neg (show ¬Config.ticketedBound ≤ _ from Nat.not_le.2 hroom)]
    split
    · rfl
    · next hquota => rw [hticket.resolve_left hquota]

/-- A served ticketed request that fails a check is answered FAIL, and nothing else changes (R68). -/
theorem State.counted_ticketedRequest_fails (s : State) (n : Link) (tag : Byte) (op : TicketOp) (a : UpAddr)
    (len : Nat) (data : List Byte) (why : FailReason) (hs : s.serves n)
    (h : s.admission n op.permission a len = .error why) :
    (s.counted n).ticketedRequest n tag op a len data = s.answered n [.result tag (.fail why)] := by
  rw [State.ticketedRequest_fails _ n tag op a len data why (by simpa using h), s.form_answered n _ hs]

/-- A served ticketed request that passes the checks and is refused for a resource is answered BUSY, counted, and
noticed, in this order (R72). -/
theorem State.counted_ticketedRequest_busy (s : State) (n : Link) (tag : Byte) (op : TicketOp) (a : UpAddr)
    (len : Nat) (data : List Byte) (w : WindowRecord) (cause : BusyCause) (hs : s.serves n)
    (h : s.admission n op.permission a len = .ok w) (hcause : s.refusesFor n cause) :
    (s.counted n).ticketedRequest n tag op a len data =
      ({ s.answered n [.result tag .busy] with
        adm := s.adm.set n { s.adm.get n with busy := rise (s.adm.get n).busy } } : State).raise
          (.ticketExhausted n cause tag a) := by
  rw [State.ticketedRequest_passes _ n tag op a len data w (by simpa using h),
    State.admitTicketed_refused _ w _ data cause ((s.counted_refusesFor n n cause).2 hcause)]
  simp only [WindowRecord.request, State.refuseBusy, s.form_answered n _ hs]
  rfl

/-- Settles O31: READ and WRITE_CONFIRMED are ticketed requests, whose refusals are said once for both. -/
theorem refusedTicketedRequests : Obligations.RefusedTicketedRequests := by
  intro s n tag a len data hs
  refine ⟨fun why hfail => ?_, fun why hlen hmax hfail => ?_, fun cause hcause =>
    ⟨fun w hpass => ?_, fun w hlen hpass => ?_⟩⟩
  · rw [exec_read_serves s n tag a len hs, s.counted_ticketedRequest_fails n tag .read a _ [] why hs hfail]
  · rw [exec_writeConfirmed_serves s n tag a len data hs hlen hmax,
      s.counted_ticketedRequest_fails n tag .confirmedWrite a _ data why hs hfail]
  · rw [exec_read_serves s n tag a len hs, s.counted_ticketedRequest_busy n tag .read a _ [] w cause hs hpass hcause]
  · have hmax : data.length ≤ 249 := by have := State.len_le_of_admission hpass; omega
    rw [exec_writeConfirmed_serves s n tag a len data hs hlen hmax,
      s.counted_ticketedRequest_busy n tag .confirmedWrite a _ data w cause hs hpass hcause]

/-! ### Posted writes -/

/-- A served WRITE whose data fit its length and a frame is put to the credit check (R192). -/
theorem exec_write_serves (s : State) (n : Link) (a : UpAddr) (len : Byte) (data : List Byte) (hs : s.serves n)
    (hlen : data.length = len.toNat) (hmax : data.length ≤ 250) :
    exec (.write n a len data) s = .next ((s.counted n).creditedWrite n a len.toNat data) := by
  have harr : Arrives (.write n a len data) n _ (takeWrite n a len data) := fun _ => rfl
  rw [harr s, takeWrite_fits n a len data ⟨hlen, hmax⟩, s.dispatch_serves n _ _ hs]

/-- The state in which a WRITE has been counted and has consumed a granted credit (R192). -/
def State.charged (s : State) (n : Link) : State :=
  { s with
    ports := s.ports.set n { s.port n with
      framesTaken := rise (s.port n).framesTaken, granted := (s.port n).granted - 1 } }

@[simp] theorem State.charged_admission (s : State) (n m : Link) (need : Permission) (a : UpAddr) (len : Nat) :
    (s.charged n).admission m need a len = s.admission m need a len := rfl

/-- Two changes of one port are one change of it. -/
theorem State.counted_updPort (s : State) (n : Link) (f : Port → Port) :
    (s.counted n).updPort n f =
      { s with ports := s.ports.set n (f { s.port n with framesTaken := rise (s.port n).framesTaken }) } := by
  simp only [State.counted, State.updPort, State.port, PerLink.get_set_self, PerLink.set_set]

theorem State.counted_granted (s : State) (n : Link) : ((s.counted n).port n).granted = (s.port n).granted := by
  rw [State.counted_port, if_pos rfl]

/-- The credit check fails: the WRITE is an overrun (R192). -/
theorem State.counted_creditedWrite_overrun (s : State) (n : Link) (a : UpAddr) (len : Nat) (data : List Byte)
    (h : (s.port n).granted = 0) :
    (s.counted n).creditedWrite n a len data = (s.counted n).creditOverrun n :=
  if_pos ((s.counted_granted n).trans h)

/-- The credit check passes: the WRITE consumes a credit and reaches the admission unit (R59, R192). -/
theorem State.counted_creditedWrite_charged (s : State) (n : Link) (a : UpAddr) (len : Nat) (data : List Byte)
    (h : 0 < (s.port n).granted) :
    (s.counted n).creditedWrite n a len data = (s.charged n).postedRequest n a len data := by
  unfold State.creditedWrite
  rw [if_neg (by rw [s.counted_granted n]; omega), s.counted_updPort n]
  rfl

theorem State.postedRequest_passes (s : State) (n : Link) (a : UpAddr) (len : Nat) (data : List Byte)
    (w : WindowRecord) (h : s.admission n .write a len = .ok w) :
    s.postedRequest n a len data = s.setQueue n (s.queue n ++ [.posted (w.postedEntry a len data)]) := by
  simp only [State.postedRequest, h]

theorem State.postedRequest_fails (s : State) (n : Link) (a : UpAddr) (len : Nat) (data : List Byte)
    (why : FailReason) (h : s.admission n .write a len = .error why) :
    s.postedRequest n a len data = s.dropPosted n a why := by
  simp only [State.postedRequest, h]

/-- Settles O33: by the credit check; a write with a credit that passes the checks joins its queue. -/
theorem postedWritesTakeACredit : Obligations.PostedWritesTakeACredit := by
  intro s n a len data hs hlen
  refine ⟨fun w hcredit hpass => ?_, fun hnone hmax => ?_⟩
  · have hmax : data.length ≤ 250 := by have := State.len_le_of_admission hpass; omega
    rw [exec_write_serves s n a len data hs hlen hmax, s.counted_creditedWrite_charged n a _ data hcredit,
      State.postedRequest_passes _ n a _ data w (by simpa using hpass)]
    rfl
  · rw [exec_write_serves s n a len data hs hlen hmax, s.counted_creditedWrite_overrun n a _ data hnone,
      State.creditOverrun, s.counted_updPort n]

/-- A report at an UP port forms one CREDIT with all that is owed, which is then granted (R193). -/
theorem Port.report_up (p : Port) (count : Nat) (h : p.up = true) :
    p.report count =
      { p with
        outbound := p.outbound ++ [.credit (p.owed + count)]
        granted := p.granted + (p.owed + count), owed := 0 } := by
  simp only [Port.report, Port.form, h, if_true]

/-- A DOWN port ignores a report (R193). -/
theorem Port.report_down (p : Port) (count : Nat) (h : p.up = false) : p.report count = p :=
  if_neg (by simp [h])

theorem State.report_eq (s : State) (n : Link) (count : Nat) :
    s.report n count = { s with ports := s.ports.set n ((s.port n).report count) } := rfl

theorem State.report_down (s : State) (n : Link) (count : Nat) (h : (s.port n).up = false) : s.report n count = s := by
  rw [s.report_eq n count, Port.report_down _ count h, State.port, PerLink.set_get]

theorem State.report_up (s : State) (n : Link) (count : Nat) (h : (s.port n).up = true) :
    s.report n count =
      { s with
        ports := s.ports.set n { s.port n with
          outbound := (s.port n).outbound ++ [.credit ((s.port n).owed + count)]
          granted := (s.port n).granted + ((s.port n).owed + count), owed := 0 } } := by
  rw [s.report_eq n count, Port.report_up _ count h]

/-- Settles O34: a charged write that fails a check is dropped; a report by the state of its port. -/
theorem droppedPostedWritesReturnTheirCredit : Obligations.DroppedPostedWritesReturnTheirCredit := by
  refine ⟨fun s n a len data why hs hlen hmax hcredit hfail => ?_, fun s n count =>
    ⟨s.report_up n count, s.report_down n count⟩⟩
  rw [exec_write_serves s n a len data hs hlen hmax, s.counted_creditedWrite_charged n a _ data hcredit,
    State.postedRequest_fails _ n a _ data why (by simpa using hfail)]
  rfl

end Sys2Proof.Machine

/-! PROOF. The statements of 04_work_queues_and_backplane_arbitration.md: the backplane lines, the probe queue and the
ranges under every step, head disposal, the start of a transaction, and runs. Before them the two parts of the state
that their laws read, and which commands write those parts. -/

namespace Sys2Proof.Machine

/-! ### The parts of the state that the laws read -/

/-- The controller and the lines it drives (R103, R105). -/
def State.busView (s : State) : BpcState × BusLines := (s.bpc, s.bus)

/-- The probe queue, the slot table, and the settings with a range (R34, R102, R126). -/
def State.slotView (s : State) : List (Fin 16) × Vector Slot 16 × PerLink Nat × Nat :=
  (s.probes, s.slots, s.quota, s.faultLimit)

/-- Both parts. -/
def State.view (s : State) : (BpcState × BusLines) × (List (Fin 16) × Vector Slot 16 × PerLink Nat × Nat) :=
  (s.busView, s.slotView)

theorem State.busView_eq_iff (s t : State) : t.busView = s.busView ↔ t.bpc = s.bpc ∧ t.bus = s.bus := by
  simp [State.busView]

theorem State.slotView_eq_iff (s t : State) :
    t.slotView = s.slotView ↔
      t.probes = s.probes ∧ t.slots = s.slots ∧ t.quota = s.quota ∧ t.faultLimit = s.faultLimit := by
  simp [State.slotView]

theorem State.view_eq_iff (s t : State) : t.view = s.view ↔ t.busView = s.busView ∧ t.slotView = s.slotView := by
  simp [State.view]

/-- A property of states that the view decides. -/
def ReadsView (P : State → Prop) : Prop := ∀ {s t : State}, t.view = s.view → P s → P t

theorem readsView_of_busView {P : State → Prop} (h : ∀ {s t : State}, t.busView = s.busView → P s → P t) :
    ReadsView P := fun e => h ((State.view_eq_iff _ _).1 e).1

theorem readsView_of_slotView {P : State → Prop} (h : ∀ {s t : State}, t.slotView = s.slotView → P s → P t) :
    ReadsView P := fun e => h ((State.view_eq_iff _ _).1 e).2

/-! ### Shared operations that leave the view -/

theorem State.updPort_view (s : State) (n : Link) (f : Port → Port) : (s.updPort n f).view = s.view := rfl

theorem State.counted_view (s : State) (n : Link) : (s.counted n).view = s.view := rfl

theorem State.form_view (s : State) (n : Link) (f : OutFrame) : (s.form n f).view = s.view := rfl

theorem State.raise_view (s : State) (d : Detail) : (s.raise d).view = s.view :=
  State.raise_keeps State.view (fun _ _ _ => rfl) (fun _ _ => rfl) s d

theorem State.emitAll_view (s : State) (n : Link) : (s.emitAll n).view = s.view :=
  State.emitAll_keeps State.view (fun _ _ _ => rfl) (fun _ _ => rfl) s n

theorem State.complete_view (s : State) (t : Fin 24) (x : Result) : (s.complete t x).view = s.view :=
  State.complete_keeps State.view (fun _ _ _ => rfl) (fun _ _ => rfl) s t x

theorem State.loseLease_view (s : State) (l : Lease) (e : LeaseEvent) : (s.loseLease l e).view = s.view :=
  State.loseLease_keeps State.view (fun _ _ => rfl) (fun _ _ => rfl) (fun _ _ _ => rfl) (fun _ _ => rfl) s l e

theorem State.waitAtReceiver_view (s : State) (n : Link) (f : RawFrame) : (s.waitAtReceiver n f).view = s.view :=
  State.waitAtReceiver_keeps State.view (fun _ _ => rfl) (fun _ _ => rfl) s n f

theorem State.dropFrame_view (s : State) (n : Link) (why : DropReason) : (s.dropFrame n why).view = s.view :=
  State.dropFrame_keeps State.view (fun _ _ _ => rfl) (fun _ _ => rfl) (fun _ _ => rfl) s n why

theorem State.ticketedRequest_view (s : State) (n : Link) (tag : Byte) (op : TicketOp) (a : UpAddr) (len : Nat)
    (data : List Byte) : (s.ticketedRequest n tag op a len data).view = s.view :=
  State.ticketedRequest_keeps State.view (fun _ _ => rfl) (fun _ _ => rfl) (fun _ _ => rfl) (fun _ _ => rfl)
    (fun _ _ _ => rfl) s n tag op a len data

theorem State.creditedWrite_view (s : State) (n : Link) (a : UpAddr) (len : Nat) (data : List Byte) :
    (s.creditedWrite n a len data).view = s.view :=
  State.creditedWrite_keeps State.view (fun _ _ => rfl) (fun _ _ => rfl) (fun _ _ => rfl) (fun _ _ _ => rfl)
    (fun _ _ _ => rfl) (fun _ _ => rfl) s n a len data

theorem State.claimTicket_view (s : State) (n : Link) (tag : Byte) (t : Fin 24) :
    (s.claimTicket n tag t).view = s.view :=
  State.claimTicket_keeps State.view (fun _ _ _ => rfl) (fun _ _ => rfl) s n tag t

theorem State.cancelTicket_view (s : State) (n : Link) (tag : Byte) (t : Fin 24) :
    (s.cancelTicket n tag t).view = s.view :=
  State.cancelTicket_keeps State.view (fun _ _ _ => rfl) (fun _ _ => rfl) (fun _ _ => rfl) s n tag t

theorem State.linkReset_view (s : State) (n : Link) : (s.linkReset n).view = s.view :=
  State.linkReset_keeps State.view (fun _ _ _ => rfl) (fun _ _ => rfl) (fun _ _ => rfl) (fun _ _ => rfl)
    (fun _ _ => rfl) (fun _ _ => rfl) (fun _ _ => rfl) s n

theorem State.bringUp_view (s : State) (n : Link) : (s.bringUp n).view = s.view :=
  State.bringUp_keeps State.view (fun _ _ _ => rfl) (fun _ _ => rfl) (fun _ _ => rfl) s n

theorem State.revoke_view (s : State) : s.revoke.view = s.view :=
  State.revoke_keeps State.view (fun _ _ _ => rfl) (fun _ _ _ => rfl) (fun _ _ => rfl) (fun _ _ => rfl)
    (fun _ _ => rfl) s

theorem State.applyCommit_view (s : State) : s.applyCommit.view = s.view := by
  simp only [State.view, State.busView, State.slotView, State.applyCommit_bpc, State.applyCommit_bus,
    State.applyCommit_probes, State.applyCommit_slots, State.applyCommit_quota, State.applyCommit_faultLimit]

theorem State.expireHold_view (s : State) (t : Fin 24) (r : Request) (st : TicketState) :
    (s.expireHold t r st).view = s.view := rfl

theorem State.expireReady_view (s : State) (t : Fin 24) (r : Request) : (s.expireReady t r).view = s.view :=
  State.expireReady_keeps State.view (fun _ _ => rfl) (fun _ _ => rfl) (fun _ _ _ => rfl) (fun _ _ => rfl) s t r

/-- The end of a timer leaves the view when what it brings about does. -/
theorem State.atTimerEnd_view (s : State) (e : Nat) (f : State → State) (hf : ∀ s : State, (f s).view = s.view) :
    (s.atTimerEnd e f).view = s.view :=
  State.atTimerEnd_keeps State.view (fun _ _ => rfl) s e f (hf _)

/-- The dispatch of a frame writes the view only where its owner does. -/
theorem State.dispatch_view (s : State) (n : Link) (act : State → State) (hact : ∀ u : State, (act u).view = u.view) :
    (s.dispatch n act).view = s.view :=
  State.dispatch_keeps (·.view = s.view) s n act (s.updPort_view n _) ((hact _).trans (s.counted_view n))

theorem takeWrite_view (n : Link) (a : UpAddr) (len : Byte) (data : List Byte) (s : State) :
    (takeWrite n a len data s).view = s.view := by
  unfold takeWrite
  split
  · exact s.dispatch_view n _ fun u => u.creditedWrite_view n a _ data
  · exact s.dropFrame_view n _

theorem takeWriteConfirmed_view (n : Link) (tag : Byte) (a : UpAddr) (len : Byte) (data : List Byte) (s : State) :
    (takeWriteConfirmed n tag a len data s).view = s.view := by
  unfold takeWriteConfirmed
  split
  · exact s.dispatch_view n _ fun u => u.ticketedRequest_view n tag _ a _ data
  · exact s.dropFrame_view n _

theorem takeClaim_view (n : Link) (tag number gen : Byte) (s : State) :
    (takeClaim n tag number gen s).view = s.view := by
  refine s.dispatch_view n _ fun u => ?_
  split
  · exact u.claimTicket_view n tag _
  · rfl

theorem takeCancel_view (n : Link) (tag number gen : Byte) (s : State) :
    (takeCancel n tag number gen s).view = s.view := by
  refine s.dispatch_view n _ fun u => ?_
  split
  · exact u.cancelTicket_view n tag _
  · rfl

theorem takeLossOfSignal_view (n : Link) (b : Bool) (s : State) : (takeLossOfSignal n b s).view = s.view := by
  unfold takeLossOfSignal
  split
  · exact State.linkReset_view _ n
  · rfl

theorem takeHello_view (n : Link) (s : State) : (takeHello n s).view = s.view := by
  unfold takeHello
  split
  · rw [State.bringUp_view, State.linkReset_view, State.updPort_view]
  · rw [State.bringUp_view, State.updPort_view]

theorem takeFrameDrop_view (n : Link) (f : RawFrame) (s : State) : (takeFrameDrop n f s).view = s.view := by
  unfold takeFrameDrop
  split
  · exact s.dropFrame_view n _
  · rfl

theorem takeAlertAssertion_view (i : Fin 16) (b : Bool) (s : State) : (takeAlertAssertion i b s).view = s.view := by
  unfold takeAlertAssertion
  split
  · exact State.raise_view _ _
  · rfl

/-! ### Owners of management commands that leave the view -/

@[simp] theorem State.accept_state (s : State) (rs : List Byte) : (s.accept rs).state = s := rfl

theorem ownerLeaseTake_view (n : Link) (ops : List Byte) (s : State) :
    (ownerLeaseTake n ops s).state.view = s.view := by
  unfold ownerLeaseTake
  split
  · split
    · rfl
    · split
      · exact State.raise_view _ _
      · split <;> rfl
  · rfl

theorem ownerLeaseRenew_view (ops : List Byte) (s : State) : (ownerLeaseRenew ops s).state.view = s.view := by
  unfold ownerLeaseRenew
  split <;> rfl

theorem ownerLeaseDrop_view (ops : List Byte) (s : State) : (ownerLeaseDrop ops s).state.view = s.view := by
  unfold ownerLeaseDrop
  split
  · exact s.loseLease_view _ _
  · rfl

theorem ownerCountersRead_view (ops : List Byte) (s : State) : (ownerCountersRead ops s).state.view = s.view := by
  unfold ownerCountersRead
  repeat' split
  all_goals rfl

theorem ownerWindowStage_view (ops : List Byte) (s : State) : (ownerWindowStage ops s).state.view = s.view := by
  unfold ownerWindowStage
  repeat' split
  all_goals rfl

theorem ownerWindowUnstage_view (ops : List Byte) (s : State) : (ownerWindowUnstage ops s).state.view = s.view := by
  unfold ownerWindowUnstage
  repeat' split
  all_goals rfl

theorem ownerWindowCommit_view (ops : List Byte) (s : State) : (ownerWindowCommit ops s).state.view = s.view := by
  unfold ownerWindowCommit
  split
  · split
    · rfl
    · split
      · rfl
      · split
        · rfl
        · rw [State.accept_state]
          split
          · rw [State.revoke_view, State.applyCommit_view]
          · exact s.applyCommit_view
  · rfl

theorem ownerWindowLock_view (ops : List Byte) (s : State) : (ownerWindowLock ops s).state.view = s.view := by
  unfold ownerWindowLock
  repeat' split
  all_goals rfl

theorem ownerWindowRead_view (ops : List Byte) (s : State) : (ownerWindowRead ops s).state.view = s.view := by
  unfold ownerWindowRead
  repeat' split
  all_goals rfl

theorem ownerSetDiscard_view (ops : List Byte) (s : State) : (ownerSetDiscard ops s).state.view = s.view := by
  unfold ownerSetDiscard
  repeat' split
  all_goals rfl

theorem ownerSetBpTimeout_view (ops : List Byte) (s : State) : (ownerSetBpTimeout ops s).state.view = s.view := by
  unfold ownerSetBpTimeout
  repeat' split
  all_goals rfl

theorem ownerSlotStatus_view (ops : List Byte) (s : State) : (ownerSlotStatus ops s).state.view = s.view := by
  unfold ownerSlotStatus
  repeat' split
  all_goals rfl

theorem ownerNoticeEnable_view (n : Link) (ops : List Byte) (s : State) :
    (ownerNoticeEnable n ops s).state.view = s.view := by
  unfold ownerNoticeEnable
  split
  · rw [State.accept_state, State.emitAll_view, State.updPort_view]
  · rfl

theorem ownerNoticeAck_view (ops : List Byte) (s : State) : (ownerNoticeAck ops s).state.view = s.view := by
  unfold ownerNoticeAck
  repeat' split
  all_goals rfl

theorem ownerNoticeRead_view (n : Link) (ops : List Byte) (s : State) :
    (ownerNoticeRead n ops s).state.view = s.view := by
  unfold ownerNoticeRead
  repeat' split
  all_goals rfl

/-! ### Commands that keep a property of the view -/

/-- Every next state of a command has the property when the state before has it. -/
def Keeps (c : Instr) (P : State → Prop) : Prop := ∀ s t : State, exec c s = .next t → P s → P t

section
variable {P : State → Prop} {c : Instr} {n : Link} {f : Option RawFrame}

theorem keeps_of_take {take : State → State} (hexec : ∀ s, exec c s = .next (take s)) (h : ∀ s, P s → P (take s)) :
    Keeps c P := by
  intro s t e hs
  rw [hexec s] at e
  cases e
  exact h s hs

theorem keeps_of_take_view {take : State → State} (hP : ReadsView P) (hexec : ∀ s, exec c s = .next (take s))
    (h : ∀ s : State, (take s).view = s.view) : Keeps c P :=
  keeps_of_take hexec fun s => hP (h s)

theorem IsEvent.keeps {act : State → State} (hev : IsEvent c act) (h : ∀ s, P s → P (act s)) : Keeps c P :=
  keeps_of_take hev fun s hs => State.unlessReset_keeps P s act hs fun _ => h s hs

theorem IsEvent.keeps_view {act : State → State} (hev : IsEvent c act) (hP : ReadsView P)
    (h : ∀ s : State, (act s).view = s.view) : Keeps c P :=
  hev.keeps fun s => hP (h s)

/-- An arrival writes the view only where its frame is taken. -/
theorem Arrives.keeps {take : State → State} (harr : Arrives c n f take) (hP : ReadsView P)
    (h : ∀ s, P s → P (take s)) : Keeps c P :=
  keeps_of_take harr fun s hs =>
    State.arrive_keeps P s n f take hs (fun g => hP (s.waitAtReceiver_view n g) hs) (h s hs)

theorem Arrives.keeps_view {take : State → State} (harr : Arrives c n f take) (hP : ReadsView P)
    (h : ∀ s : State, (take s).view = s.view) : Keeps c P :=
  harr.keeps hP fun s => hP (h s)

/-- A management command writes the view only where its owner's part does. -/
theorem Arrives.keeps_of_manage {tag code : Byte} {count : Nat} {lease : Bool} {ops : List Byte}
    {owner : List Byte → State → MgmtAnswer} (harr : Arrives c n f (·.manage n tag code count lease ops owner))
    (hP : ReadsView P) (h : ∀ s, P s → P (owner ops s).state) : Keeps c P :=
  harr.keeps hP fun s hs =>
    State.dispatch_keeps P s n _ (hP (s.updPort_view n _) hs) <|
      State.checked_keeps P _ n tag code count lease ops owner (fun u n f => hP (u.form_view n f))
        (hP (s.counted_view n) hs) fun _ _ => h _ (hP (s.counted_view n) hs)

theorem Arrives.keeps_of_manage_view {tag code : Byte} {count : Nat} {lease : Bool} {ops : List Byte}
    {owner : List Byte → State → MgmtAnswer} (harr : Arrives c n f (·.manage n tag code count lease ops owner))
    (hP : ReadsView P) (h : ∀ s, (owner ops s).state.view = s.view) : Keeps c P :=
  harr.keeps_of_manage hP fun s => hP (h s)

end

/-- The answers of a module and the expiry of the phase timer, which reach a transaction in progress (R106, R109, R111,
R113). -/
def answersBackplane : Instr → Bool
  | .phaseTimerExpiry | .selectAccept | .selectReject | .selectWait | .writeBeatAccept | .writeBeatError
  | .readBeatData _ _ | .readBeatError => true
  | _ => false

/-- The other commands that can write the view: full reset, the grant, head disposal, and the management commands for
slots, counters, quotas and the fault limit. -/
def writesView : Instr → Bool
  | .fullReset _ | .arbiterGrant | .headDisposal _ | .countersClear _ _ _ | .gateReset _ _ _ | .setQuota _ _ _
  | .slotProbe _ _ _ | .slotFence _ _ _ | .setFaultLimit _ _ _ => true
  | _ => false

/-- Every other command leaves the view. -/
theorem keeps_of_quiet {P : State → Prop} (hP : ReadsView P) (c : Instr) (hans : answersBackplane c = false)
    (hw : writesView c = false) : Keeps c P := by
  cases c with
  | fullReset | arbiterGrant | headDisposal | countersClear | gateReset | setQuota | slotProbe | slotFence
  | setFaultLimit => cases hw
  | phaseTimerExpiry | selectAccept | selectReject | selectWait | writeBeatAccept | writeBeatError | readBeatData
  | readBeatError => cases hans
  | lossOfSignal n b => exact keeps_of_take_view hP (fun _ => rfl) (takeLossOfSignal_view n b)
  | alertAssertion i b => exact keeps_of_take_view hP (fun _ => rfl) (takeAlertAssertion_view i b)
  | hello n => exact Arrives.keeps_view (fun _ => rfl) hP (takeHello_view n)
  | frameDrop n f => exact Arrives.keeps_view (fun _ => rfl) hP (takeFrameDrop_view n f)
  | frameWaitsAtReceiver n f => exact (frameWaitsAtReceiver_arrives n f).keeps_view hP fun s => s.updPort_view n _
  | read n tag a len =>
    exact Arrives.keeps_view (take := takeRead n tag a len) (fun _ => rfl) hP fun s =>
      s.dispatch_view n _ fun u => u.ticketedRequest_view n tag .read a _ []
  | writeConfirmed n tag a len data =>
    exact Arrives.keeps_view (fun _ => rfl) hP (takeWriteConfirmed_view n tag a len data)
  | write n a len data => exact Arrives.keeps_view (fun _ => rfl) hP (takeWrite_view n a len data)
  | claim n tag number gen => exact Arrives.keeps_view (fun _ => rfl) hP (takeClaim_view n tag number gen)
  | cancel n tag number gen => exact Arrives.keeps_view (fun _ => rfl) hP (takeCancel_view n tag number gen)
  | mgmtUnknownCommand n tag code ops =>
    exact Arrives.keeps_view (take := takeMgmtUnknown n tag code) (fun _ => rfl) hP fun s =>
      s.dispatch_view n _ fun u => u.form_view n _
  | leaseTake n tag ops => exact Arrives.keeps_of_manage_view (fun _ => rfl) hP (ownerLeaseTake_view n ops)
  | leaseRenew n tag ops => exact Arrives.keeps_of_manage_view (fun _ => rfl) hP (ownerLeaseRenew_view ops)
  | leaseDrop n tag ops => exact Arrives.keeps_of_manage_view (fun _ => rfl) hP (ownerLeaseDrop_view ops)
  | identify n tag ops => exact Arrives.keeps_of_manage_view (fun _ => rfl) hP fun _ => rfl
  | countersRead n tag ops => exact Arrives.keeps_of_manage_view (fun _ => rfl) hP (ownerCountersRead_view ops)
  | windowStage n tag ops => exact Arrives.keeps_of_manage_view (fun _ => rfl) hP (ownerWindowStage_view ops)
  | windowUnstageClear n tag ops => exact Arrives.keeps_of_manage_view (fun _ => rfl) hP (ownerWindowUnstage_view ops)
  | windowUnstageWithdraw n tag ops =>
    exact Arrives.keeps_of_manage_view (fun _ => rfl) hP (ownerWindowUnstage_view ops)
  | windowCommit n tag ops => exact Arrives.keeps_of_manage_view (fun _ => rfl) hP (ownerWindowCommit_view ops)
  | windowLock n tag ops => exact Arrives.keeps_of_manage_view (fun _ => rfl) hP (ownerWindowLock_view ops)
  | windowRead n tag ops => exact Arrives.keeps_of_manage_view (fun _ => rfl) hP (ownerWindowRead_view ops)
  | setDiscard n tag ops => exact Arrives.keeps_of_manage_view (fun _ => rfl) hP (ownerSetDiscard_view ops)
  | ticketSummary n tag ops => exact Arrives.keeps_of_manage_view (fun _ => rfl) hP fun _ => rfl
  | setBpTimeout n tag ops => exact Arrives.keeps_of_manage_view (fun _ => rfl) hP (ownerSetBpTimeout_view ops)
  | slotStatus n tag ops => exact Arrives.keeps_of_manage_view (fun _ => rfl) hP (ownerSlotStatus_view ops)
  | noticeEnable n tag ops => exact Arrives.keeps_of_manage_view (fun _ => rfl) hP (ownerNoticeEnable_view n ops)
  | noticeAck n tag ops => exact Arrives.keeps_of_manage_view (fun _ => rfl) hP (ownerNoticeAck_view ops)
  | noticeRead n tag ops => exact Arrives.keeps_of_manage_view (fun _ => rfl) hP (ownerNoticeRead_view n ops)
  | holdExpiry t =>
    refine IsEvent.keeps_view (fun _ => rfl) hP fun s => ?_
    split
    · exact s.atTimerEnd_view _ _ fun u => u.expireHold_view t _ _
    · exact s.atTimerEnd_view _ _ fun u => u.expireHold_view t _ _
    · rfl
  | discardExpiry t =>
    refine IsEvent.keeps_view (fun _ => rfl) hP fun s => ?_
    split
    · exact s.atTimerEnd_view _ _ fun u => u.expireReady_view t _
    · rfl
  | leaseExpiry =>
    refine IsEvent.keeps_view (fun _ => rfl) hP fun s => ?_
    split
    · exact s.atTimerEnd_view _ _ fun u => u.loseLease_view _ _
    · rfl
  | outboundFrameSent n => exact IsEvent.keeps_view (fun _ => rfl) hP fun s => s.updPort_view n _
  | transmissionBegins n => exact IsEvent.keeps_view (fun _ => rfl) hP fun s => s.updPort_view n _

/-! ### Every step -/

/-- What every command keeps, every step keeps, when the view decides it: beside commands, a step writes only the time,
the queue of commands, the free values drawn and the frames that wait at a receiver (log 5). -/
theorem step_keeps {P : State → Prop} (hP : ReadsView P) (hexec : ∀ c, Keeps c P) {s t : State} (hs : P s)
    (hstep : step s = .next t) : P t := by
  unfold step at hstep
  split at hstep
  · next c rest _ => exact hexec c _ t hstep (hP (show State.view _ = s.view from rfl) hs)
  · have hdrawn : P { s with free := s.free + 1 } := hP (show State.view _ = s.view from rfl) hs
    unfold State.idleStep GateEvent.run at hstep
    split at hstep
    · cases hstep
      exact hP (show State.view _ = s.view from rfl) hs
    · next n _ =>
      unfold State.takeWaiting at hstep
      split at hstep
      · cases hstep
        exact hdrawn
      · next f rest _ =>
        split at hstep
        · next u hu =>
          cases hstep
          exact hP (u.updPort_view n _) (hexec _ _ u hu (hP (State.updPort_view _ n _) hdrawn))
        · cases hstep
        · cases hstep
    · next c _ => exact hexec c _ t hstep hdrawn

/-! ### What full reset and an answer on the backplane can do -/

/-- FULL_RESET takes the view to its reset values, or only records the level of the input (R1; log 2). -/
theorem keeps_fullReset {P : State → Prop} (hP : ReadsView P) (hreset : P State.reset) (cause : ResetCause) :
    Keeps (.fullReset cause) P := by
  have hfull : ∀ t : State, t.view = State.reset.view → P t := fun t h => hP h hreset
  refine keeps_of_take (take := takeFullReset cause) (fun _ => rfl) fun s hs => ?_
  cases cause with
  | powerOn => exact hfull _ rfl
  | resetInput asserted =>
    cases asserted with
    | false => exact hP (show State.view _ = s.view from rfl) hs
    | true =>
      unfold takeFullReset
      dsimp only
      split
      · exact hs
      · exact hfull _ rfl

/-- Everything that the answer of a module, or the expiry of the phase timer, can do: it is ignored, or it reaches the
operation in progress (R106, R107, R109, R111, R113). -/
inductive State.AnswerOutcome (s : State) : State → Prop where
  | ignored : AnswerOutcome s s
  | selectAccepted (op : Operation) (row : Option ModAddr) (h : s.bpc.operation? = some op) :
    AnswerOutcome s ((s.acceptedReport op).awaitBeat op row 0 [] none)
  | selectWaits (op : Operation) (row : Option ModAddr) (h : s.bpc.operation? = some op) :
    AnswerOutcome s { s with bpc := .addressing op row s.phaseEnd }
  | fails (op : Operation) (f : Failure) (h : s.bpc.operation? = some op) : AnswerOutcome s (s.endFailed op f)
  | timesOut (op : Operation) (e : Nat) (h : s.bpc.operation? = some op) :
    AnswerOutcome s ((s.toward e).endFailed op .timeout)
  | writeBeat (op : Operation) (row : Option ModAddr) (i : Nat) (h : s.bpc.operation? = some op) :
    AnswerOutcome s (s.acceptWriteBeat op row i)
  | readBeat (op : Operation) (row : Option ModAddr) (i : Nat) (got : List Byte) (lanes : BitVec 32)
    (parity : BitVec 4) (h : s.bpc.operation? = some op) : AnswerOutcome s (s.takeReadBeat op row i got lanes parity)

/-- The phase timer of the operation in progress runs out, unless another timer ends earlier (log 4). -/
theorem State.atTimerEnd_answerOutcome (s : State) (op : Operation) (e : Nat) (h : s.bpc.operation? = some op) :
    s.AnswerOutcome (s.atTimerEnd e (·.endFailed op .timeout)) :=
  State.atTimerEnd_keeps_prop s.AnswerOutcome s e _ .ignored fun _ => .timesOut op e h

theorem IsEvent.answerOutcome {c : Instr} {act : State → State} (hev : IsEvent c act)
    (h : ∀ s : State, s.AnswerOutcome (act s)) {s t : State} (hexec : exec c s = .next t) : s.AnswerOutcome t := by
  rw [hev s] at hexec
  cases hexec
  exact State.unlessReset_keeps s.AnswerOutcome s act .ignored fun _ => h s

theorem exec_answerOutcome (c : Instr) (hans : answersBackplane c = true) {s t : State} (hexec : exec c s = .next t) :
    s.AnswerOutcome t := by
  cases c with
  | phaseTimerExpiry =>
    refine IsEvent.answerOutcome (fun _ => rfl) (fun s => ?_) hexec
    split
    · next hbpc => exact s.atTimerEnd_answerOutcome _ _ (by rw [hbpc]; rfl)
    · next hbpc => exact s.atTimerEnd_answerOutcome _ _ (by rw [hbpc]; rfl)
    · exact .ignored
  | selectAccept =>
    refine IsEvent.answerOutcome (fun _ => rfl) (fun s => ?_) hexec
    split
    · next hbpc => exact .selectAccepted _ _ (by rw [hbpc]; rfl)
    · exact .ignored
  | selectReject =>
    refine IsEvent.answerOutcome (fun _ => rfl) (fun s => ?_) hexec
    split
    · next hbpc => exact .fails _ _ (by rw [hbpc]; rfl)
    · exact .ignored
  | selectWait =>
    refine IsEvent.answerOutcome (fun _ => rfl) (fun s => ?_) hexec
    split
    · next hbpc => exact .selectWaits _ _ (by rw [hbpc]; rfl)
    · exact .ignored
  | writeBeatAccept =>
    refine IsEvent.answerOutcome (fun _ => rfl) (fun s => ?_) hexec
    split
    · next hbpc =>
      split
      · exact .writeBeat _ _ _ (by rw [hbpc]; rfl)
      · exact .ignored
    · exact .ignored
  | writeBeatError =>
    refine IsEvent.answerOutcome (fun _ => rfl) (fun s => ?_) hexec
    split
    · next hbpc =>
      split
      · exact .fails _ _ (by rw [hbpc]; rfl)
      · exact .ignored
    · exact .ignored
  | readBeatData lanes parity =>
    refine IsEvent.answerOutcome (fun _ => rfl) (fun s => ?_) hexec
    split
    · next hbpc =>
      split
      · exact .ignored
      · exact .readBeat _ _ _ _ _ _ (by rw [hbpc]; rfl)
    · exact .ignored
  | readBeatError =>
    refine IsEvent.answerOutcome (fun _ => rfl) (fun s => ?_) hexec
    split
    · next hbpc =>
      split
      · exact .ignored
      · exact .fails _ _ (by rw [hbpc]; rfl)
    · exact .ignored
  | _ => cases hans

/-- An answer that arrives while the controller is IDLE is ignored (R112). -/
theorem State.AnswerOutcome.eq_of_idle {s t : State} (h : s.AnswerOutcome t) (hidle : s.bpc = .idle) : t = s := by
  cases h with
  | ignored => rfl
  | selectAccepted _ _ hop | selectWaits _ _ hop | fails _ _ hop | timesOut _ _ hop | writeBeat _ _ _ hop
  | readBeat _ _ _ _ _ _ hop =>
    rw [hidle] at hop
    cases hop

/-! ### The backplane lines -/

theorem State.busLaw_of_busView {s t : State} (h : t.busView = s.busView) (hs : s.BusLaw) : t.BusLaw := by
  obtain ⟨hbpc, hbus⟩ := (s.busView_eq_iff t).1 h
  unfold State.BusLaw
  rw [hbpc, hbus]
  exact hs

/-- While an operation is in progress, the law says that its slot is selected. -/
theorem State.busLaw_iff_select {s : State} {op : Operation} (h : s.bpc.operation? = some op) :
    s.BusLaw ↔ s.bus.select = some op.slot := by
  unfold State.BusLaw
  rw [h]

theorem State.busLaw_toIdle (s : State) : s.toIdle.BusLaw := rfl

theorem State.busLaw_startSelect (s : State) (op : Operation) : (s.startSelect op).BusLaw := rfl

theorem State.busLaw_awaitBeat (s : State) (op : Operation) (row : Option ModAddr) (i : Nat) (got : List Byte)
    (cont : Option Nat) : (s.awaitBeat op row i got cont).BusLaw := rfl

theorem State.busLaw_endFailed (s : State) (op : Operation) (f : Failure) : (s.endFailed op f).BusLaw := by
  cases op <;> exact State.busLaw_toIdle _

theorem State.busLaw_endPosted (s : State) (n : Link) (cur : PostedEntry) (row : Option ModAddr) :
    (s.endPosted n cur row).BusLaw := by
  unfold State.endPosted
  split
  · exact State.busLaw_awaitBeat _ _ _ _ _ _
  · exact s.busLaw_toIdle

theorem State.busLaw_acceptWriteBeat {s : State} (hs : s.BusLaw) (op : Operation) (row : Option ModAddr) (i : Nat) :
    (s.acceptWriteBeat op row i).BusLaw := by
  unfold State.acceptWriteBeat
  split
  · exact s.busLaw_awaitBeat _ _ _ _ _
  · cases op with
    | postedWrite n e => exact s.busLaw_endPosted n e row
    | ticketed t r d => exact State.busLaw_toIdle _
    | probe i => exact hs

theorem State.busLaw_endRead {s : State} (hs : s.BusLaw) (op : Operation) (bytes : List Byte) (lanes : BitVec 32) :
    (s.endRead op bytes lanes).BusLaw := by
  cases op with
  | postedWrite n e => exact hs
  | ticketed t r d => exact State.busLaw_toIdle _
  | probe i => exact State.busLaw_toIdle _

theorem State.busLaw_takeReadBeat {s : State} (hs : s.BusLaw) (op : Operation) (row : Option ModAddr) (i : Nat)
    (got : List Byte) (lanes : BitVec 32) (parity : BitVec 4) : (s.takeReadBeat op row i got lanes parity).BusLaw := by
  unfold State.takeReadBeat
  dsimp only
  split
  · split
    · exact s.busLaw_awaitBeat _ _ _ _ _
    · exact State.busLaw_endRead hs op _ lanes
  · exact s.busLaw_endFailed op .dataError

/-- An answer goes on with the operation in progress, continues its run, or returns to IDLE. -/
theorem State.AnswerOutcome.busLaw {s t : State} (h : s.AnswerOutcome t) (hs : s.BusLaw) : t.BusLaw := by
  cases h with
  | ignored => exact hs
  | selectAccepted op row => exact State.busLaw_awaitBeat _ _ _ _ _ _
  | selectWaits op row hop =>
    have hselect : s.bus.select = some op.slot := (State.busLaw_iff_select hop).1 hs
    exact hselect
  | fails op f => exact s.busLaw_endFailed op f
  | timesOut op e => exact State.busLaw_endFailed _ op .timeout
  | writeBeat op row i => exact State.busLaw_acceptWriteBeat hs op row i
  | readBeat op row i got lanes parity => exact State.busLaw_takeReadBeat hs op row i got lanes parity

/-! ### The start of a transaction -/

/-- What a grant may start: the probe of a slot that the probe queue names, or an operation for an ONLINE slot (R89,
R103). -/
def State.mayStart (s : State) (op : Operation) : Prop :=
  (∃ i, op = .probe i ∧ i ∈ s.probes) ∨ (∀ i, op ≠ .probe i) ∧ s.online op.slot = true

/-- A ticketed entry names the slot of the QUEUED ticket it names (R86; log 18). -/
theorem State.entrySlot_ticketed (s : State) (t : Fin 24) (i : Fin 16) :
    s.entrySlot (.ticketed t) = some i ↔ ∃ r d m, (s.ticket t).st = .queued r d m ∧ r.slot = i := by
  cases hst : (s.ticket t).st <;> simp [State.entrySlot, hst]

theorem State.grantQueue_posted (s : State) {n : Link} {e : PostedEntry} {rest : List WorkEntry}
    (hq : s.queue n = .posted e :: rest) :
    s.grantQueue n = ((s.setQueue n rest).report n 1).startSelect (.postedWrite n e) := by
  simp only [State.grantQueue, hq]

theorem State.grantQueue_ticketed (s : State) {n : Link} {t : Fin 24} {rest : List WorkEntry} {r : Request}
    {d : List Byte} {m : ReplyMode} (hq : s.queue n = .ticketed t :: rest) (ht : (s.ticket t).st = .queued r d m) :
    s.grantQueue n =
      ((s.setQueue n rest).setTicketState t (.issued r d m)).startSelect (.ticketed t r d) := by
  simp only [State.grantQueue, hq, ht]

theorem State.grantProbe_cons (s : State) {i : Fin 16} {rest : List (Fin 16)} (hp : s.probes = i :: rest) :
    s.grantProbe = (({ s with probes := rest } : State).updSlot i Slot.issueProbe).startSelect (.probe i) := by
  simp only [State.grantProbe, hp]

/-- An eligible head of a queue starts its own operation (R90). -/
theorem State.grantQueue_starts (s : State) (n : Link) (h : s.headEligible n = true) :
    ∃ op, ∃ u : State, s.grantQueue n = u.startSelect op ∧ s.mayStart op := by
  unfold State.headEligible at h
  split at h
  · next e rest hq =>
    split at h
    · next i hi =>
      cases e with
      | posted p =>
        cases hi
        exact ⟨.postedWrite n p, _, s.grantQueue_posted hq, .inr ⟨nofun, h⟩⟩
      | ticketed t =>
        obtain ⟨r, d, m, hst, rfl⟩ := (s.entrySlot_ticketed t i).1 hi
        exact ⟨.ticketed t r d, _, s.grantQueue_ticketed hq hst, .inr ⟨nofun, h⟩⟩
    · cases h
  · cases h

/-- A probe queue that is not empty starts the probe at its head (R90, R102). -/
theorem State.grantProbe_starts (s : State) (h : (!s.probes.isEmpty) = true) :
    ∃ op, ∃ u : State, s.grantProbe = u.startSelect op ∧ s.mayStart op := by
  cases hp : s.probes with
  | nil => simp [hp] at h
  | cons i rest =>
    exact ⟨.probe i, _, s.grantProbe_cons hp, .inl ⟨i, rfl, by simp [hp]⟩⟩

theorem State.grant_starts (s : State) (src : Source) (h : s.eligible src = true) :
    ∃ op, ∃ u : State, s.grant src = u.startSelect op ∧ s.mayStart op := by
  cases src with
  | wq0 => exact State.grantQueue_starts { s with pointer := .wq1 } .l0 h
  | wq1 => exact State.grantQueue_starts { s with pointer := .prq } .l1 h
  | prq => exact State.grantProbe_starts { s with pointer := .wq0 } h

theorem State.chosen_eligible {s : State} {src : Source} (h : s.chosen = some src) : s.eligible src = true :=
  List.find?_some h

/-- Everything a grant can do: nothing, or, from an IDLE controller, the grant of an eligible source (R89, R90). -/
theorem takeArbiterGrant_cases (s : State) :
    takeArbiterGrant s = s ∨
      ∃ src, s.bpc = .idle ∧ s.eligible src = true ∧ takeArbiterGrant s = s.grant src := by
  unfold takeArbiterGrant State.unlessReset
  split
  · exact .inl rfl
  · dsimp only
    split
    · next src hbpc hsrc => exact .inr ⟨src, hbpc, State.chosen_eligible hsrc, rfl⟩
    · exact .inl rfl

theorem arbiterGrant_keeps_busLaw : Keeps .arbiterGrant State.BusLaw := by
  refine keeps_of_take (take := takeArbiterGrant) (fun _ => rfl) fun s hs => ?_
  rcases takeArbiterGrant_cases s with e | ⟨src, _, hel, e⟩
  · rw [e]
    exact hs
  · obtain ⟨op, u, hstart, _⟩ := s.grant_starts src hel
    rw [e, hstart]
    exact u.busLaw_startSelect op

/-! ### Commands that leave the backplane -/

theorem State.fence_busView (s : State) (i : Fin 16) : (s.fence i).busView = s.busView :=
  State.fence_keeps State.busView (fun _ _ => rfl) (fun _ _ => rfl) (fun _ _ _ => rfl) (fun _ _ => rfl) s i

theorem State.changeSlot_busView (s : State) (i : Fin 16) (r : Slot) (c : ChangeCause) :
    (s.changeSlot i r c).busView = s.busView :=
  State.changeSlot_keeps State.busView (fun _ _ => rfl) (fun _ _ _ => rfl) (fun _ _ => rfl) s i r c

theorem State.gateReset_busView (s : State) : s.gateReset.busView = s.busView :=
  State.gateReset_keeps State.busView (fun _ _ _ => rfl) (fun _ _ _ => rfl) (fun _ _ => rfl) (fun _ _ => rfl)
    (fun _ _ => rfl) (fun _ _ => rfl) (fun _ _ => rfl) (fun _ _ => rfl) (fun _ _ => rfl) s

theorem State.disposeHead_busView (s : State) (n : Link) (e : WorkEntry) (rest : List WorkEntry) (i : Fin 16) :
    (s.disposeHead n e rest i).busView = s.busView :=
  State.disposeHead_keeps State.busView (fun _ _ => rfl) (fun _ _ => rfl) (fun _ _ => rfl) (fun _ _ => rfl)
    (fun _ _ _ => rfl) (fun _ _ _ => rfl) s n e rest i

theorem State.clearCounters_busView (s : State) (g : CounterGroup) : (s.clearCounters g).busView = s.busView := by
  cases g <;> rfl

theorem ownerCountersClear_busView (ops : List Byte) (s : State) :
    (ownerCountersClear ops s).state.busView = s.busView := by
  unfold ownerCountersClear
  split
  · split
    · exact s.clearCounters_busView _
    · rfl
  · rfl

theorem ownerSetQuota_busView (ops : List Byte) (s : State) : (ownerSetQuota ops s).state.busView = s.busView := by
  unfold ownerSetQuota
  repeat' split
  all_goals rfl

theorem ownerSlotProbe_busView (ops : List Byte) (s : State) : (ownerSlotProbe ops s).state.busView = s.busView := by
  unfold ownerSlotProbe
  split
  · split
    · rfl
    · split
      · rfl
      · exact State.changeSlot_busView _ _ _ _
  · rfl

theorem ownerSlotFence_busView (ops : List Byte) (s : State) : (ownerSlotFence ops s).state.busView = s.busView := by
  unfold ownerSlotFence
  split
  · split
    · rfl
    · exact s.fence_busView _
  · rfl

theorem ownerSetFaultLimit_busView (ops : List Byte) (s : State) :
    (ownerSetFaultLimit ops s).state.busView = s.busView := by
  unfold ownerSetFaultLimit
  repeat' split
  all_goals rfl

/-- Only full reset, a grant, and what answers a transaction in progress write the controller and its lines. -/
theorem keeps_of_busView {P : State → Prop} (hP : ∀ {s t : State}, t.busView = s.busView → P s → P t) (c : Instr)
    (hfull : ∀ cause, c ≠ .fullReset cause) (hgrant : c ≠ .arbiterGrant) (hans : answersBackplane c = false) :
    Keeps c P := by
  have hview : ReadsView P := readsView_of_busView hP
  cases c with
  | fullReset cause => exact absurd rfl (hfull cause)
  | arbiterGrant => exact absurd rfl hgrant
  | headDisposal n =>
    refine IsEvent.keeps (fun _ => rfl) fun s => hP ?_
    split
    · split
      · split
        · rfl
        · exact s.disposeHead_busView _ _ _ _
      · rfl
    · rfl
  | countersClear n tag ops =>
    exact Arrives.keeps_of_manage (fun _ => rfl) hview fun s => hP (ownerCountersClear_busView ops s)
  | gateReset n tag ops =>
    exact Arrives.keeps_of_manage (owner := ownerGateReset) (fun _ => rfl) hview fun s => hP s.gateReset_busView
  | setQuota n tag ops => exact Arrives.keeps_of_manage (fun _ => rfl) hview fun s => hP (ownerSetQuota_busView ops s)
  | slotProbe n tag ops => exact Arrives.keeps_of_manage (fun _ => rfl) hview fun s => hP (ownerSlotProbe_busView ops s)
  | slotFence n tag ops => exact Arrives.keeps_of_manage (fun _ => rfl) hview fun s => hP (ownerSlotFence_busView ops s)
  | setFaultLimit n tag ops =>
    exact Arrives.keeps_of_manage (fun _ => rfl) hview fun s => hP (ownerSetFaultLimit_busView ops s)
  | _ => exact keeps_of_quiet hview _ hans rfl

theorem keeps_busLaw (c : Instr) : Keeps c State.BusLaw := by
  cases hans : answersBackplane c with
  | true => exact fun s t hexec hs => (exec_answerOutcome c hans hexec).busLaw hs
  | false =>
    by_cases hgrant : c = .arbiterGrant
    · rw [hgrant]
      exact arbiterGrant_keeps_busLaw
    · by_cases hfull : ∃ cause, c = .fullReset cause
      · obtain ⟨cause, rfl⟩ := hfull
        exact keeps_fullReset (readsView_of_busView State.busLaw_of_busView) rfl cause
      · exact keeps_of_busView State.busLaw_of_busView c (fun cause e => hfull ⟨cause, e⟩) hgrant hans

/-! ### The probe queue, the slots and the ranges -/

/-- How many times the probe queue names a slot in a state (R102). -/
def SlotState.queuedProbes : SlotState → Nat
  | .probing .queued _ => 1
  | _ => 0

theorem State.probeLaw_iff (s : State) :
    s.ProbeLaw ↔ ∀ i, s.probes.count i = (s.slot i).state.queuedProbes := Iff.rfl

/-- The laws of the slot table and the probe queue, and the ranges. -/
structure State.SlotLaws (s : State) : Prop where
  probe : s.ProbeLaw
  range : s.RangeLaw

theorem State.SlotLaws.of_slotView {s t : State} (hs : s.SlotLaws) (h : t.slotView = s.slotView) : t.SlotLaws := by
  obtain ⟨hprobes, hslots, hquota, hlimit⟩ := (s.slotView_eq_iff t).1 h
  obtain ⟨hprobe, hrange⟩ := hs
  refine ⟨?_, ?_⟩
  · unfold State.ProbeLaw State.slot at hprobe ⊢
    rw [hprobes, hslots]
    exact hprobe
  · unfold State.RangeLaw State.slot at hrange ⊢
    rw [hquota, hlimit, hslots]
    exact hrange

theorem State.SlotLaws.count_probes {s : State} (hs : s.SlotLaws) (i : Fin 16) :
    s.probes.count i = (s.slot i).state.queuedProbes := s.probeLaw_iff.1 hs.probe i

theorem readsView_slotLaws : ReadsView State.SlotLaws := readsView_of_slotView fun h hs => hs.of_slotView h

/-- The laws after the record of one slot and the probe queue have changed: the queue names that slot as its new state
says, and the others as often as before. -/
theorem State.SlotLaws.changeProbe {s : State} (hs : s.SlotLaws) (i : Fin 16) (f : Slot → Slot) (ps : List (Fin 16))
    (hother : ∀ j, j ≠ i → ps.count j = s.probes.count j)
    (hself : ps.count i = (f (s.slot i)).state.queuedProbes) (hcount : (f (s.slot i)).consecutive ≤ 7) :
    (({ s with probes := ps } : State).updSlot i f).SlotLaws := by
  obtain ⟨hprobe, hquota, hlow, hhigh, hslots⟩ := hs
  have hslot : ∀ j, (({ s with probes := ps } : State).updSlot i f).slot j = if j = i then f (s.slot i) else s.slot j :=
    fun j => State.updSlot_slot _ i j f
  refine ⟨(State.probeLaw_iff _).2 fun j => ?_, hquota, hlow, hhigh, fun j => ?_⟩
  · rw [hslot]
    split
    · next h =>
      rw [h]
      exact hself
    · next h => exact (hother j h).trans (hprobe j)
  · rw [hslot]
    split
    · exact hcount
    · exact hslots j

/-- A change of one record that neither begins nor ends the waiting of a probe, with a count in range. -/
theorem State.SlotLaws.updSlot {s : State} (hs : s.SlotLaws) (i : Fin 16) (f : Slot → Slot)
    (hqueued : (f (s.slot i)).state.queuedProbes = (s.slot i).state.queuedProbes)
    (hcount : (f (s.slot i)).consecutive ≤ 7) : (s.updSlot i f).SlotLaws :=
  hs.changeProbe i f s.probes (fun _ _ => rfl) ((hs.count_probes i).trans hqueued.symm) hcount

theorem State.SlotLaws.consecutive_le {s : State} (hs : s.SlotLaws) (i : Fin 16) : (s.slot i).consecutive ≤ 7 := by
  obtain ⟨_, _, _, _, hslots⟩ := hs
  exact hslots i

theorem State.changeSlot_slotView (s : State) (i : Fin 16) (r : Slot) (c : ChangeCause) :
    (s.changeSlot i r c).slotView = (s.updSlot i fun _ => r).slotView :=
  ((State.view_eq_iff _ _).1 (State.raise_view _ _)).2

theorem State.SlotLaws.changeSlot {s : State} (hs : s.SlotLaws) (i : Fin 16) (r : Slot) (c : ChangeCause)
    (hqueued : r.state.queuedProbes = (s.slot i).state.queuedProbes) (hcount : r.consecutive ≤ 7) :
    (s.changeSlot i r c).SlotLaws :=
  (hs.updSlot i _ hqueued hcount).of_slotView (s.changeSlot_slotView i r c)

/-! ### Reports to the slot table -/

@[simp] theorem Slot.countFailure_state (r : Slot) (f : Failure) (posted : Bool) :
    (r.countFailure f posted).state = r.state := by
  cases f <;> cases posted <;> rfl

theorem Slot.countFailure_consecutive_le (r : Slot) (f : Failure) (posted : Bool) (h : r.consecutive ≤ 7) :
    (r.countFailure f posted).consecutive ≤ 7 := by
  cases f with
  | timeout => exact Nat.min_le_left _ _
  | rejected => cases posted <;> exact h
  | dataError => cases posted <;> exact h

theorem State.SlotLaws.reportFailure {s : State} (hs : s.SlotLaws) (i : Fin 16) (f : Failure) (posted : Bool) :
    (s.reportFailure i f posted).SlotLaws := by
  have hcount := (s.slot i).countFailure_consecutive_le f posted (hs.consecutive_le i)
  unfold State.reportFailure
  dsimp only
  split
  · next hfence =>
    obtain ⟨_, hstate, _⟩ := hfence
    have honline : (s.slot i).state = .online := by simpa using hstate
    exact hs.changeSlot i _ .faults (by rw [honline]; rfl) hcount
  · exact hs.updSlot i _ (by rw [Slot.countFailure_state]) hcount

theorem State.SlotLaws.reportAccepted {s : State} (hs : s.SlotLaws) (i : Fin 16) : (s.reportAccepted i).SlotLaws :=
  hs.updSlot i _ rfl (Nat.zero_le 7)

theorem State.SlotLaws.probeResult {s : State} (hs : s.SlotLaws) (i : Fin 16) (found : Option (BitVec 32)) :
    (s.probeResult i found).SlotLaws := by
  unfold State.probeResult
  split
  · next hissued =>
    split
    · exact hs.changeSlot i _ .found (by rw [hissued]; rfl) (Nat.zero_le 7)
    · exact hs.changeSlot i _ .absent (by rw [hissued]; rfl) (Nat.zero_le 7)
  · exact hs

/-! ### Transactions -/

theorem State.SlotLaws.raise {s : State} (hs : s.SlotLaws) (d : Detail) : (s.raise d).SlotLaws :=
  readsView_slotLaws (s.raise_view d) hs

theorem State.SlotLaws.complete {s : State} (hs : s.SlotLaws) (t : Fin 24) (x : Result) : (s.complete t x).SlotLaws :=
  readsView_slotLaws (s.complete_view t x) hs

theorem State.SlotLaws.toIdle {s : State} (hs : s.SlotLaws) : s.toIdle.SlotLaws :=
  hs.of_slotView rfl

theorem State.SlotLaws.awaitBeat {s : State} (hs : s.SlotLaws) (op : Operation) (row : Option ModAddr) (i : Nat)
    (got : List Byte) (cont : Option Nat) : (s.awaitBeat op row i got cont).SlotLaws :=
  hs.of_slotView rfl

theorem State.SlotLaws.endFailed {s : State} (hs : s.SlotLaws) (op : Operation) (f : Failure) :
    (s.endFailed op f).SlotLaws := by
  cases op with
  | postedWrite n e => exact ((hs.reportFailure e.slot f true).raise _).toIdle
  | ticketed t r d =>
    have hreport := hs.reportFailure r.slot f false
    unfold State.endFailed
    dsimp only
    split
    · exact ((hreport.raise _).complete t _).toIdle
    · exact (hreport.complete t _).toIdle
  | probe i => exact (hs.probeResult i none).toIdle

theorem State.SlotLaws.acceptedReport {s : State} (hs : s.SlotLaws) (op : Operation) :
    (s.acceptedReport op).SlotLaws := by
  cases op with
  | postedWrite n e => exact hs.reportAccepted e.slot
  | ticketed t r d => exact hs.reportAccepted r.slot
  | probe i => exact hs

theorem State.SlotLaws.acceptWriteBeat {s : State} (hs : s.SlotLaws) (op : Operation) (row : Option ModAddr) (i : Nat) :
    (s.acceptWriteBeat op row i).SlotLaws :=
  hs.of_slotView (State.acceptWriteBeat_keeps State.slotView (fun _ _ => rfl) (fun _ _ => rfl) (fun _ _ _ => rfl)
    (fun _ _ _ => rfl) (fun _ _ => rfl) (fun _ _ => rfl) s op row i)

theorem State.SlotLaws.endRead {s : State} (hs : s.SlotLaws) (op : Operation) (bytes : List Byte) (lanes : BitVec 32) :
    (s.endRead op bytes lanes).SlotLaws := by
  cases op with
  | postedWrite n e => exact hs
  | ticketed t r d => exact (hs.complete t _).toIdle
  | probe i => exact (hs.probeResult i _).toIdle

theorem State.SlotLaws.takeReadBeat {s : State} (hs : s.SlotLaws) (op : Operation) (row : Option ModAddr) (i : Nat)
    (got : List Byte) (lanes : BitVec 32) (parity : BitVec 4) :
    (s.takeReadBeat op row i got lanes parity).SlotLaws := by
  unfold State.takeReadBeat
  dsimp only
  split
  · split
    · exact hs.awaitBeat _ _ _ _ _
    · exact hs.endRead op _ lanes
  · exact hs.endFailed op .dataError

theorem State.AnswerOutcome.slotLaws {s t : State} (h : s.AnswerOutcome t) (hs : s.SlotLaws) : t.SlotLaws := by
  cases h with
  | ignored => exact hs
  | selectAccepted op row => exact (hs.acceptedReport op).awaitBeat op row 0 [] none
  | selectWaits op row => exact hs.of_slotView rfl
  | fails op f => exact hs.endFailed op f
  | timesOut op e => exact (hs.of_slotView (t := s.toward e) rfl).endFailed op .timeout
  | writeBeat op row i => exact hs.acceptWriteBeat op row i
  | readBeat op row i got lanes parity => exact hs.takeReadBeat op row i got lanes parity

/-! ### Grant and head disposal -/

theorem State.SlotLaws.grantQueue {s : State} (hs : s.SlotLaws) (n : Link) : (s.grantQueue n).SlotLaws :=
  hs.of_slotView (State.grantQueue_keeps State.slotView (fun _ _ => rfl) (fun _ _ => rfl) (fun _ _ _ => rfl)
    (fun _ _ => rfl) (fun _ _ => rfl) s n)

theorem Slot.issueProbe_consecutive (r : Slot) : r.issueProbe.consecutive = r.consecutive := by
  unfold Slot.issueProbe
  split <;> rfl

/-- The probe of a slot that is granted waits no longer (R129). -/
theorem Slot.issueProbe_queuedProbes (r : Slot) : r.issueProbe.state.queuedProbes = 0 := by
  unfold Slot.issueProbe
  cases hst : r.state with
  | probing stage prior => rfl
  | _ => simp [hst, SlotState.queuedProbes]

theorem SlotState.queuedProbes_le_one (st : SlotState) : st.queuedProbes ≤ 1 := by
  unfold SlotState.queuedProbes
  split
  · exact Nat.le_refl 1
  · exact Nat.zero_le 1

/-- The granted probe leaves the queue, which named its slot once. -/
theorem State.SlotLaws.grantProbe {s : State} (hs : s.SlotLaws) : s.grantProbe.SlotLaws := by
  cases hp : s.probes with
  | nil => simpa only [State.grantProbe, hp] using hs
  | cons i rest =>
    have hone : (i :: rest).count i ≤ 1 := by
      rw [← hp, hs.count_probes i]
      exact SlotState.queuedProbes_le_one _
    have hleft : rest.count i = 0 := by
      rw [List.count_cons_self] at hone
      omega
    rw [s.grantProbe_cons hp]
    refine (hs.changeProbe i Slot.issueProbe rest (fun j hj => ?_) ?_ ?_).of_slotView rfl
    · rw [hp, List.count_cons_of_ne (Ne.symm hj)]
    · rw [hleft, Slot.issueProbe_queuedProbes]
    · rw [Slot.issueProbe_consecutive]
      exact hs.consecutive_le i

theorem State.SlotLaws.grant {s : State} (hs : s.SlotLaws) (src : Source) : (s.grant src).SlotLaws := by
  have hmoved : ({ s with pointer := src.next } : State).SlotLaws := hs.of_slotView rfl
  cases src with
  | wq0 => exact hmoved.grantQueue .l0
  | wq1 => exact hmoved.grantQueue .l1
  | prq => exact hmoved.grantProbe

theorem State.SlotLaws.disposeHead {s : State} (hs : s.SlotLaws) (n : Link) (e : WorkEntry) (rest : List WorkEntry)
    (i : Fin 16) : (s.disposeHead n e rest i).SlotLaws := by
  have hleft : (s.setQueue n rest).SlotLaws := hs.of_slotView rfl
  cases e with
  | ticketed t => exact hleft.complete t _
  | posted p =>
    have hlost := hleft.updSlot i (fun r => { r with postedLost := rise r.postedLost }) rfl (hleft.consecutive_le i)
    exact (hlost.raise (.downstreamFault n i (s.slot i).state.disposalReason p.upstream)).of_slotView rfl

/-! ### Management commands for slots, counters and settings -/

theorem State.SlotLaws.clearCounters {s : State} (hs : s.SlotLaws) (g : CounterGroup) :
    (s.clearCounters g).SlotLaws := by
  cases g with
  | link n => exact hs.of_slotView rfl
  | slot i => exact hs.updSlot i _ rfl (hs.consecutive_le i)
  | gate => exact hs.of_slotView rfl

theorem ownerCountersClear_slotLaws (ops : List Byte) (s : State) (hs : s.SlotLaws) :
    (ownerCountersClear ops s).state.SlotLaws := by
  unfold ownerCountersClear
  split
  · split
    · exact hs.clearCounters _
    · exact hs
  · exact hs

theorem ownerSetQuota_slotLaws (ops : List Byte) (s : State) (hs : s.SlotLaws) :
    (ownerSetQuota ops s).state.SlotLaws := by
  unfold ownerSetQuota
  split
  · split
    · next m _ =>
      split
      · next q _ hq =>
        obtain ⟨hprobe, hquota, hrest⟩ := hs
        refine ⟨hprobe, fun n => ?_, hrest⟩
        rw [State.accept_state, PerLink.get_set]
        split
        · exact hq
        · exact hquota n
      · exact hs
    · exact hs
  · exact hs

theorem ownerSetFaultLimit_slotLaws (ops : List Byte) (s : State) (hs : s.SlotLaws) :
    (ownerSetFaultLimit ops s).state.SlotLaws := by
  unfold ownerSetFaultLimit
  split
  · split
    · next hlimit =>
      obtain ⟨hlow, hhigh⟩ := hlimit
      obtain ⟨hprobe, hquota, _, _, hslots⟩ := hs
      exact ⟨hprobe, hquota, hlow, hhigh, hslots⟩
    · exact hs
  · exact hs

/-- A slot that SLOT_PROBE takes has no probe waiting (R128). -/
theorem SlotState.queuedProbes_of_prior {st : SlotState} {p : PriorState} (h : st.prior? = some p) :
    st.queuedProbes = 0 := by
  cases st with
  | probing stage prior => cases h
  | _ => rfl

theorem ownerSlotProbe_slotLaws (ops : List Byte) (s : State) (hs : s.SlotLaws) :
    (ownerSlotProbe ops s).state.SlotLaws := by
  unfold ownerSlotProbe
  split
  · split
    · exact hs
    · next i _ =>
      split
      · exact hs
      · next prior hprior =>
        have hnone : s.probes.count i = 0 := (hs.count_probes i).trans (SlotState.queuedProbes_of_prior hprior)
        refine State.SlotLaws.of_slotView (hs.changeProbe i (fun _ => { s.slot i with state := .probing .queued prior })
          (s.probes ++ [i]) (fun j hj => ?_) ?_ (hs.consecutive_le i)) (State.changeSlot_slotView _ i _ .probe)
        · rw [List.count_append, List.count_singleton, if_neg (by simpa using Ne.symm hj), Nat.add_zero]
        · rw [List.count_append, hnone, List.count_singleton_self]
          rfl
  · exact hs

/-- SLOT_FENCE takes a waiting probe out of the probe queue (R135). -/
theorem State.SlotLaws.fence {s : State} (hs : s.SlotLaws) (i : Fin 16) : (s.fence i).SlotLaws := by
  have hcount := hs.consecutive_le i
  unfold State.fence
  dsimp only
  split
  · next hst => exact hs.updSlot i _ (by rw [hst]; rfl) hcount
  · refine State.SlotLaws.of_slotView (hs.changeProbe i (fun _ => { s.slot i with state := .fenced .command })
      (s.probes.filter (· ≠ i)) (fun j hj => ?_) ?_ hcount) (State.changeSlot_slotView _ i _ .command)
    · exact List.count_filter (by simpa using hj)
    · exact List.count_eq_zero.2 (by simp)
  · next hst => exact hs.changeSlot i _ .command (by rw [hst]; rfl) hcount
  · next hst => exact hs.changeSlot i _ .command (by rw [hst]; rfl) hcount
  · next hst => exact hs.changeSlot i _ .command (by rw [hst]; rfl) hcount

theorem ownerSlotFence_slotLaws (ops : List Byte) (s : State) (hs : s.SlotLaws) :
    (ownerSlotFence ops s).state.SlotLaws := by
  unfold ownerSlotFence
  split
  · split
    · exact hs
    · exact hs.fence _
  · exact hs

/-! ### Gate reset -/

/-- Amid step 4 of a gate reset: the probe queue is empty, and only the slots still to be returned may have a probe
marked as waiting (R142, R178). -/
structure State.ReturningProbes (s : State) (is : List (Fin 16)) : Prop where
  probes : s.probes = []
  range : s.RangeLaw
  others : ∀ j, j ∉ is → (s.slot j).state.queuedProbes = 0

/-- With no slot left to return, the laws hold. -/
theorem State.ReturningProbes.slotLaws {s : State} (h : s.ReturningProbes []) : s.SlotLaws :=
  ⟨(s.probeLaw_iff).2 fun i => by rw [h.probes, h.others i List.not_mem_nil]; rfl, h.range⟩

theorem PriorState.restored_queuedProbes (p : PriorState) : p.restored.queuedProbes = 0 := by
  cases p <;> rfl

theorem State.changeSlot_slot (s : State) (i j : Fin 16) (r : Slot) (c : ChangeCause) :
    (s.changeSlot i r c).slot j = if j = i then r else s.slot j := by
  obtain ⟨_, hslots, _⟩ := (State.slotView_eq_iff _ _).1 (s.changeSlot_slotView i r c)
  unfold State.slot at *
  rw [hslots]
  exact State.updSlot_slot s i j fun _ => r

/-- The head of the list is returned (R142). -/
theorem State.ReturningProbes.returnProbe {s : State} {i : Fin 16} {is : List (Fin 16)}
    (h : s.ReturningProbes (i :: is)) : (s.returnProbe i).ReturningProbes is := by
  obtain ⟨hprobes, ⟨hquota, hlow, hhigh, hslots⟩, hothers⟩ := h
  unfold State.returnProbe
  split
  · next prior hst =>
    refine ⟨by simpa using hprobes, ⟨by simpa using hquota, by simpa using hlow, by simpa using hhigh, fun j => ?_⟩,
      fun j hj => ?_⟩
    · rw [State.changeSlot_slot]
      split
      · exact hslots i
      · exact hslots j
    · rw [State.changeSlot_slot]
      split
      · exact prior.restored_queuedProbes
      · next hne => exact hothers j (by simp [hne, hj])
  · next hst =>
    refine ⟨hprobes, ⟨hquota, hlow, hhigh, hslots⟩, fun j hj => ?_⟩
    by_cases hji : j = i
    · subst hji
      unfold SlotState.queuedProbes
      split
      · next prior hq => exact absurd hq (hst prior)
      · rfl
    · exact hothers j (by simp [hji, hj])

theorem State.ReturningProbes.foldl (is : List (Fin 16)) {s : State} (h : s.ReturningProbes is) :
    (is.foldl State.returnProbe s).ReturningProbes [] := by
  induction is generalizing s with
  | nil => exact h
  | cons i is ih => exact ih h.returnProbe

/-- The probe queue names every slot whose probe waits, so all of them are returned. -/
theorem State.SlotLaws.resetProbes {s : State} (hs : s.SlotLaws) : s.resetProbes.SlotLaws := by
  refine (State.ReturningProbes.foldl s.probes (s := { s with probes := [] }) ⟨rfl, hs.range, fun j hj => ?_⟩).slotLaws
  exact (hs.count_probes j).symm.trans (List.count_eq_zero.2 hj)

theorem State.clearNotices_slotView (s : State) : s.clearNotices.slotView = s.slotView := rfl

theorem State.SlotLaws.gateReset {s : State} (hs : s.SlotLaws) : s.gateReset.SlotLaws := by
  have hflushed : s.flushDirect.slotView = s.slotView :=
    State.flushDirect_keeps State.slotView (fun _ _ _ => rfl) (fun _ _ => rfl) s
  have hwork : s.flushDirect.clearNotices.resetWork.slotView = s.flushDirect.clearNotices.slotView :=
    State.resetWork_keeps State.slotView (fun _ _ => rfl) (fun _ _ _ => rfl) (fun _ _ => rfl) (fun _ _ => rfl) _
  have hcleared : s.flushDirect.clearNotices.SlotLaws :=
    (hs.of_slotView hflushed).of_slotView s.flushDirect.clearNotices_slotView
  have hpointer : ∀ u : State, ({ u with pointer := .wq0 } : State).slotView = u.slotView := fun _ => rfl
  exact (hcleared.of_slotView hwork).resetProbes.of_slotView (hpointer _)

/-! ### Every command -/

theorem slotLaws_reset : State.reset.SlotLaws := by
  have hslot : ∀ i, State.reset.slot i = Slot.reset := fun i => Vector.getElem_replicate _
  refine ⟨(State.probeLaw_iff _).2 fun i => by rw [hslot]; rfl, fun n => ?_, by decide, by decide, fun i => ?_⟩
  · cases n <;> decide
  · rw [hslot]
    exact Nat.zero_le 7

theorem keeps_slotLaws (c : Instr) : Keeps c State.SlotLaws := by
  have hview : ReadsView State.SlotLaws := readsView_slotLaws
  cases hans : answersBackplane c with
  | true => exact fun s t hexec hs => (exec_answerOutcome c hans hexec).slotLaws hs
  | false =>
    cases c with
    | fullReset cause => exact keeps_fullReset hview slotLaws_reset cause
    | arbiterGrant =>
      refine keeps_of_take (take := takeArbiterGrant) (fun _ => rfl) fun s hs => ?_
      rcases takeArbiterGrant_cases s with e | ⟨src, _, _, e⟩
      · rw [e]
        exact hs
      · rw [e]
        exact hs.grant src
    | headDisposal n =>
      refine IsEvent.keeps (fun _ => rfl) fun s hs => ?_
      split
      · split
        · split
          · exact hs
          · exact hs.disposeHead _ _ _ _
        · exact hs
      · exact hs
    | countersClear n tag ops => exact Arrives.keeps_of_manage (fun _ => rfl) hview (ownerCountersClear_slotLaws ops)
    | gateReset n tag ops =>
      exact Arrives.keeps_of_manage (owner := ownerGateReset) (fun _ => rfl) hview fun s hs => hs.gateReset
    | setQuota n tag ops => exact Arrives.keeps_of_manage (fun _ => rfl) hview (ownerSetQuota_slotLaws ops)
    | slotProbe n tag ops => exact Arrives.keeps_of_manage (fun _ => rfl) hview (ownerSlotProbe_slotLaws ops)
    | slotFence n tag ops => exact Arrives.keeps_of_manage (fun _ => rfl) hview (ownerSlotFence_slotLaws ops)
    | setFaultLimit n tag ops => exact Arrives.keeps_of_manage (fun _ => rfl) hview (ownerSetFaultLimit_slotLaws ops)
    | _ => exact keeps_of_quiet hview _ hans rfl

/-- Settles O46: the law of the lines reads the controller and its lines alone, the others the probe queue, the slots
and the settings alone; each is kept by every command, so by every step. -/
theorem backplaneAndSlotLawsAreKept : Obligations.BackplaneAndSlotLawsAreKept := by
  intro s t hbus hprobe hrange hstep
  have hslots : t.SlotLaws := step_keeps readsView_slotLaws keeps_slotLaws ⟨hprobe, hrange⟩ hstep
  exact ⟨step_keeps (readsView_of_busView State.busLaw_of_busView) keeps_busLaw hbus hstep, hslots.probe, hslots.range⟩

/-! ### Only a grant starts a transaction -/

theorem keeps_idle_of_ne_grant (c : Instr) (h : c ≠ .arbiterGrant) : Keeps c (·.bpc = .idle) := by
  have hbus : ∀ {s t : State}, t.busView = s.busView → s.bpc = .idle → t.bpc = .idle := fun {s t} e hidle => by
    obtain ⟨hbpc, _⟩ := (s.busView_eq_iff t).1 e
    exact hbpc.trans hidle
  cases hans : answersBackplane c with
  | true =>
    intro s t hexec hidle
    rw [(exec_answerOutcome c hans hexec).eq_of_idle hidle]
    exact hidle
  | false =>
    by_cases hfull : ∃ cause, c = .fullReset cause
    · obtain ⟨cause, rfl⟩ := hfull
      exact keeps_fullReset (readsView_of_busView hbus) rfl cause
    · exact keeps_of_busView hbus c (fun cause e => hfull ⟨cause, e⟩) h hans

/-- Settles O38: every other command keeps the controller IDLE, and a grant starts the operation of an eligible
source. -/
theorem onlyAGrantStartsATransaction : Obligations.OnlyAGrantStartsATransaction := by
  intro c s t hidle hexec hbusy
  have hgrant : c = .arbiterGrant :=
    Decidable.byContradiction fun h => hbusy (keeps_idle_of_ne_grant c h s t hexec hidle)
  subst hgrant
  have ht : takeArbiterGrant s = t := Host.Outcome.next.inj hexec
  subst ht
  refine ⟨rfl, ?_⟩
  rcases takeArbiterGrant_cases s with e | ⟨src, _, hel, e⟩
  · rw [e] at hbusy
    exact absurd hidle hbusy
  · obtain ⟨op, u, hstart, hmay⟩ := s.grant_starts src hel
    rw [e, hstart]
    exact ⟨op, rfl, hmay⟩

/-! ### Head disposal and runs -/

/-- HEAD_DISPOSAL of a head that names a slot which is not ONLINE (R86). -/
theorem exec_headDisposal (s : State) {n : Link} {e : WorkEntry} {rest : List WorkEntry} {i : Fin 16}
    (hr : s.resetPin = false) (hq : s.queue n = e :: rest) (hslot : s.entrySlot e = some i)
    (hoff : s.online i = false) : exec (.headDisposal n) s = .next (s.disposeHead n e rest i) := by
  have hev : IsEvent (.headDisposal n) _ := fun _ => rfl
  rw [hev s, s.unlessReset_next _ hr]
  simp only [hq, hslot, hoff, Bool.false_eq_true, if_false]

/-- Settles O36: the disposal of the head, by the kind of its entry, with the reason of its slot. -/
theorem headDisposalByTheSlotState : Obligations.HeadDisposalByTheSlotState := by
  intro s n rest slot hr hoff why
  have hwhy : (s.slot slot).state.disposalReason = why := by
    cases hst : (s.slot slot).state <;> simp only [why, hst, SlotState.disposalReason]
  refine ⟨fun t r d m hq hst hslot => ?_, fun e hq hslot => ?_⟩
  · have hentry : s.entrySlot (.ticketed t) = some slot := (s.entrySlot_ticketed t slot).2 ⟨r, d, m, hst, hslot⟩
    rw [exec_headDisposal s hr hq hentry hoff, ← hwhy]
    rfl
  · have hentry : s.entrySlot (.posted e) = some slot := congrArg some hslot
    rw [exec_headDisposal s hr hq hentry hoff, ← hwhy]
    rfl

theorem State.joinsRun_iff (s : State) (cur e : PostedEntry) (row : ModAddr) :
    s.joinsRun cur row e = true ↔
      e.slot = cur.slot ∧ s.online e.slot = true ∧ e.addr.toNat = cur.addr.toNat + cur.len ∧ e.width = cur.width ∧
        e.chaining = true ∧ row.toNat ≤ e.addr.toNat ∧ e.addr.toNat + e.len ≤ row.toNat + 64 := by
  simp [State.joinsRun]

theorem State.continuation_posted (s : State) {n : Link} {e : PostedEntry} {rest : List WorkEntry}
    (hq : s.queue n = .posted e :: rest) (cur : PostedEntry) (row : ModAddr) :
    s.continuation n cur (some row) = if cur.chaining && s.joinsRun cur row e then some (e, rest) else none := by
  simp only [State.continuation, hq]

theorem State.continuation_of_not_posted (s : State) {n : Link} (hq : ∀ e rest, s.queue n ≠ .posted e :: rest)
    (cur : PostedEntry) (row : Option ModAddr) : s.continuation n cur row = none := by
  unfold State.continuation
  split
  · next e rest h => exact absurd h (hq e rest)
  · rfl

/-- A run continues exactly with a posted head that joins it, when the current write allows chaining (R92, R93). -/
theorem State.continuation_eq_some_iff (s : State) (n : Link) (cur e : PostedEntry) (row : ModAddr)
    (rest : List WorkEntry) :
    s.continuation n cur (some row) = some (e, rest) ↔
      s.queue n = .posted e :: rest ∧ cur.chaining = true ∧ s.joinsRun cur row e = true := by
  by_cases hq : ∃ head tail, s.queue n = .posted head :: tail
  · obtain ⟨head, tail, hq⟩ := hq
    rw [s.continuation_posted hq, hq]
    constructor
    · intro h
      split at h
      · next hjoin =>
        cases h
        exact ⟨rfl, by simpa using hjoin⟩
      · cases h
    · rintro ⟨h, hjoin⟩
      cases h
      rw [if_pos (by simpa using hjoin)]
  · have hq' : ∀ head tail, s.queue n ≠ .posted head :: tail := fun head tail h => hq ⟨head, tail, h⟩
    rw [s.continuation_of_not_posted hq']
    exact ⟨nofun, fun h => absurd h.1 (hq' e rest)⟩

/-- Settles O43: the conditions of a run, read at the slot of the current write. -/
theorem runsContinueInTheirRow : Obligations.RunsContinueInTheirRow := by
  intro s n cur e row rest
  refine ⟨?_, fun h => s.continuation_of_not_posted h cur (some row)⟩
  rw [s.continuation_eq_some_iff, s.joinsRun_iff]
  constructor
  · rintro ⟨hq, hcur, hslot, honline, hjoin⟩
    exact ⟨hq, hcur, hslot, hslot ▸ honline, hjoin⟩
  · rintro ⟨hq, hcur, hslot, honline, hjoin⟩
    exact ⟨hq, hcur, hslot, hslot ▸ honline, hjoin⟩

end Sys2Proof.Machine

/-! PROOF. The statements of 05_backplane_transactions.md: the answers to a select, write beats, read beats, the failed
end of a transaction, and the answers that are not awaited. Before them one rule for each row in the phase that awaits
it, and one for each case of the operations by which a transaction goes on or ends. -/

namespace Sys2Proof.Machine

/-! ### Events that are taken, and events without effect -/

theorem IsEvent.exec_next {c : Instr} {act : State → State} (hev : IsEvent c act) {s t : State}
    (hr : s.resetPin = false) (ht : act s = t) : exec c s = .next t := by
  rw [hev s, s.unlessReset_next act hr, ht]

/-- An event that changes nothing changes nothing while RESET stays asserted either. -/
theorem IsEvent.exec_ignored {c : Instr} {act : State → State} (hev : IsEvent c act) {s : State} (hs : act s = s) :
    exec c s = .next s := by
  cases hr : s.resetPin with
  | true => exact hev.exec_resetPin s hr
  | false => exact hev.exec_next hr hs

/-! ### The lines of a beat, and the parity of a lane -/

theorem Operation.isWrite_iff (op : Operation) : op.isWrite = true ↔ op.code = .write := decide_eq_true_iff

theorem Operation.isWrite_of_code {op : Operation} (h : op.code = .write) : op.isWrite = true := op.isWrite_iff.2 h

theorem Operation.isWrite_of_code_ne {op : Operation} (h : op.code ≠ .write) : op.isWrite = false :=
  Bool.eq_false_iff.2 fun hw => h (op.isWrite_iff.1 hw)

theorem Operation.beatLines_eq (op : Operation) (i : Nat) (cont : Option Nat) :
    op.beatLines i cont = if op.code = .write then .writeBeat cont (op.lanes i) else .readBeat := by
  simp only [Operation.beatLines, op.isWrite_iff]

/-- R108: the parity bit makes the number of ones of the nine bits odd. -/
theorem laneSound_iff (b : Byte) (p : Bool) : laneSound (b, p) = true ↔ (ones b + if p then 1 else 0) % 2 = 1 := by
  cases p with
  | true =>
    have hodd : ones b % 2 = 0 ↔ (ones b + 1) % 2 = 1 := by omega
    simpa [laneSound, parityBit] using hodd
  | false => simp [laneSound, parityBit]

/-! ### Each row in the phase that awaits it -/

section
variable {s : State} {op : Operation} {row : Option ModAddr} {timer i : Nat} {got : List Byte}

theorem exec_selectAccept (hr : s.resetPin = false) (hbpc : s.bpc = .addressing op row timer) :
    exec .selectAccept s = .next ((s.acceptedReport op).awaitBeat op row 0 [] none) :=
  IsEvent.exec_next (fun _ => rfl) hr (by simp only [hbpc])

theorem exec_selectReject (hr : s.resetPin = false) (hbpc : s.bpc = .addressing op row timer) :
    exec .selectReject s = .next (s.endFailed op .rejected) :=
  IsEvent.exec_next (fun _ => rfl) hr (by simp only [hbpc])

theorem exec_selectWait (hr : s.resetPin = false) (hbpc : s.bpc = .addressing op row timer) :
    exec .selectWait s = .next { s with bpc := .addressing op row s.phaseEnd } :=
  IsEvent.exec_next (fun _ => rfl) hr (by simp only [hbpc])

theorem exec_writeBeatAccept (hr : s.resetPin = false) (hbpc : s.bpc = .transfer op row timer i got)
    (hw : op.code = .write) : exec .writeBeatAccept s = .next (s.acceptWriteBeat op row i) :=
  IsEvent.exec_next (fun _ => rfl) hr (by simp only [hbpc, Operation.isWrite_of_code hw, if_true])

theorem exec_writeBeatError (hr : s.resetPin = false) (hbpc : s.bpc = .transfer op row timer i got)
    (hw : op.code = .write) : exec .writeBeatError s = .next (s.endFailed op .dataError) :=
  IsEvent.exec_next (fun _ => rfl) hr (by simp only [hbpc, Operation.isWrite_of_code hw, if_true])

theorem exec_readBeatData (hr : s.resetPin = false) (hbpc : s.bpc = .transfer op row timer i got)
    (hw : op.code ≠ .write) (lanes : BitVec 32) (parity : BitVec 4) :
    exec (.readBeatData lanes parity) s = .next (s.takeReadBeat op row i got lanes parity) :=
  IsEvent.exec_next (fun _ => rfl) hr
    (by simp only [hbpc, Operation.isWrite_of_code_ne hw, Bool.false_eq_true, if_false])

theorem exec_readBeatError (hr : s.resetPin = false) (hbpc : s.bpc = .transfer op row timer i got)
    (hw : op.code ≠ .write) : exec .readBeatError s = .next (s.endFailed op .dataError) :=
  IsEvent.exec_next (fun _ => rfl) hr
    (by simp only [hbpc, Operation.isWrite_of_code_ne hw, Bool.false_eq_true, if_false])

/-- The phase timer runs in both phases, and its expiry does the same in both (R113). -/
theorem exec_phaseTimerExpiry (hr : s.resetPin = false)
    (hbpc : s.bpc = .addressing op row timer ∨ s.bpc = .transfer op row timer i got) :
    exec .phaseTimerExpiry s = .next (s.atTimerEnd timer (·.endFailed op .timeout)) := by
  refine IsEvent.exec_next (fun _ => rfl) hr ?_
  rcases hbpc with hbpc | hbpc
  · simp only [hbpc]
  · simp only [hbpc]

end

/-! ### The answers to a select -/

/-- The ACCEPTED report clears the consecutive-timeout count of the slot, unless the operation is a probe (R106, R132). -/
theorem State.acceptedReport_eq (s : State) (op : Operation) :
    s.acceptedReport op = { s with
      slots := match op with
        | .probe _ => s.slots
        | _ => s.slots.set op.slot { s.slot op.slot with consecutive := 0 } } := by
  cases op with
  | postedWrite n e => rfl
  | ticketed t r d => rfl
  | probe k => rfl

/-- Settles O39: ACCEPT is the ACCEPTED report and the wait for the first beat, WAIT a fresh phase timer. -/
theorem selectAnswers : Obligations.SelectAnswers := by
  intro s op row timer hr hbpc
  refine ⟨?_, exec_selectWait hr hbpc⟩
  rw [exec_selectAccept hr hbpc, s.acceptedReport_eq op, State.awaitBeat, op.beatLines_eq]
  rfl

/-! ### The failed end of a transaction -/

/-- Settles O40: each row is the failed end of the operation in progress, whose reports stand in the order of R122; the
expiry comes at the end of the timer, or not at all while another timer ends earlier. -/
theorem failedTransactionsEnd : Obligations.FailedTransactionsEnd := by
  unfold Obligations.FailedTransactionsEnd
  intro ended s op row timer i got hr
  have hended : ∀ (u : State) (f : Failure), u.endFailed op f = ended u op f := fun u f => by
    cases op with
    | postedWrite n e => rfl
    | probe k => rfl
    | ticketed t r d =>
      cases f with
      | rejected => rfl
      | dataError => rfl
      | timeout => rfl
  refine ⟨fun hbpc => ?_, fun hbpc hw => ?_, fun hbpc hw => ?_, fun hbpc => ⟨fun hfirst => ?_, fun hlater => ?_⟩⟩
  · rw [exec_selectReject hr hbpc, hended]
  · rw [exec_writeBeatError hr hbpc hw, hended]
  · rw [exec_readBeatError hr hbpc hw, hended]
  · rw [exec_phaseTimerExpiry hr hbpc, s.atTimerEnd_first timer _ hfirst, hended]
    rfl
  · rw [exec_phaseTimerExpiry hr hbpc, s.atTimerEnd_later timer _ hlater]

/-! ### Write beats -/

theorem State.acceptWriteBeat_next (s : State) {op : Operation} (row : Option ModAddr) {i : Nat}
    (h : i + 1 < op.beats) : s.acceptWriteBeat op row i = s.awaitBeat op row (i + 1) [] none := if_pos h

theorem State.acceptWriteBeat_ticketed (s : State) {t : Fin 24} {r : Request} {d : List Byte} (row : Option ModAddr)
    {i : Nat} (h : (Operation.ticketed t r d).beats ≤ i + 1) :
    s.acceptWriteBeat (.ticketed t r d) row i = (s.complete t .done).toIdle := if_neg (Nat.not_lt.2 h)

theorem State.acceptWriteBeat_posted (s : State) {n : Link} {e : PostedEntry} (row : Option ModAddr) {i : Nat}
    (h : (Operation.postedWrite n e).beats ≤ i + 1) :
    s.acceptWriteBeat (.postedWrite n e) row i = s.endPosted n e row := if_neg (Nat.not_lt.2 h)

theorem State.endPosted_none (s : State) {n : Link} {cur : PostedEntry} {row : Option ModAddr}
    (h : s.continuation n cur row = none) : s.endPosted n cur row = s.toIdle := by
  simp only [State.endPosted, h]

theorem State.endPosted_some (s : State) {n : Link} {cur e : PostedEntry} {row : Option ModAddr}
    {rest : List WorkEntry} (h : s.continuation n cur row = some (e, rest)) :
    s.endPosted n cur row =
      ((s.setQueue n rest).report n 1).awaitBeat (.postedWrite n e) row 0 []
        (some (Operation.postedWrite n e).beats) := by
  simp only [State.endPosted, h]

theorem Operation.code_confirmedWrite {t : Fin 24} {r : Request} {d : List Byte} (h : r.op = .confirmedWrite) :
    (Operation.ticketed t r d).code = .write := by
  simp only [Operation.code, h]

/-- Settles O42: the accepted beat is not the last, or it is the last one of a confirmed write, or of a posted write,
which ends or continues its run. -/
theorem writeBeatsAdvance : Obligations.WriteBeatsAdvance := by
  intro s row timer i got hr
  refine ⟨fun op hw hlt hbpc => ?_, fun t r d hop hlast hbpc => ?_,
    fun n e hlast hbpc => ⟨fun hnone => ?_, fun next rest hsome => ?_⟩⟩
  · rw [exec_writeBeatAccept hr hbpc hw, s.acceptWriteBeat_next row hlt, State.awaitBeat, op.beatLines_eq, if_pos hw]
    rfl
  · rw [exec_writeBeatAccept hr hbpc (Operation.code_confirmedWrite hop), s.acceptWriteBeat_ticketed row hlast]
    rfl
  · rw [exec_writeBeatAccept hr hbpc rfl, s.acceptWriteBeat_posted row hlast, s.endPosted_none hnone]
    rfl
  · rw [exec_writeBeatAccept hr hbpc rfl, s.acceptWriteBeat_posted row hlast, s.endPosted_some hsome]
    rfl

/-! ### Read beats -/

section
variable (s : State) (op : Operation) (row : Option ModAddr) (i : Nat) (got : List Byte) (lanes : BitVec 32)
  (parity : BitVec 4)

theorem State.takeReadBeat_unsound (h : ((laneList lanes parity).take op.width.toNat).all laneSound = false) :
    s.takeReadBeat op row i got lanes parity = s.endFailed op .dataError := by
  simp only [State.takeReadBeat, h, Bool.false_eq_true, if_false]

theorem State.takeReadBeat_next (h : ((laneList lanes parity).take op.width.toNat).all laneSound = true)
    (hlt : i + 1 < op.beats) :
    s.takeReadBeat op row i got lanes parity =
      s.awaitBeat op row (i + 1) (got ++ ((laneList lanes parity).take op.width.toNat).map (·.1)) none := by
  simp only [State.takeReadBeat, h, hlt, if_true]

theorem State.takeReadBeat_last (h : ((laneList lanes parity).take op.width.toNat).all laneSound = true)
    (hlast : op.beats ≤ i + 1) :
    s.takeReadBeat op row i got lanes parity =
      s.endRead op (got ++ ((laneList lanes parity).take op.width.toNat).map (·.1)) lanes := by
  simp only [State.takeReadBeat, h, Nat.not_lt.2 hlast, if_true, if_false]

end

/-- Settles O44: the lanes in use are sound or not, and a sound beat is the last or not; the one beat of a probe is
always its last. -/
theorem readBeatsAreChecked : Obligations.ReadBeatsAreChecked := by
  refine ⟨laneSound_iff, fun s row timer i got lanes parity op hr hbpc hread => ?_⟩
  intro used bytes
  rw [exec_readBeatData hr hbpc hread]
  refine ⟨fun hsound hlt => ?_, fun t r d hop hsound hlast => ?_, fun k hop hsound => ?_, fun hunsound => ?_⟩
  · rw [s.takeReadBeat_next op row i got lanes parity hsound hlt, State.awaitBeat, op.beatLines_eq, if_neg hread]
    rfl
  · rw [s.takeReadBeat_last op row i got lanes parity hsound hlast]
    subst hop
    rfl
  · have hlast : op.beats ≤ i + 1 := hop ▸ Nat.le_add_left 1 i
    rw [s.takeReadBeat_last op row i got lanes parity hsound hlast]
    subst hop
    rfl
  · rw [s.takeReadBeat_unsound op row i got lanes parity hunsound]

/-! ### Answers that are not awaited -/

/-- The controller awaits the answer to a select (R106). -/
def BpcState.awaitsSelect : BpcState → Bool
  | .addressing _ _ _ => true
  | _ => false

/-- The controller awaits the answer to a write beat (R109). -/
def BpcState.awaitsWriteBeat : BpcState → Bool
  | .transfer op _ _ _ _ => op.isWrite
  | _ => false

/-- The controller awaits the answer to a read beat (R111). -/
def BpcState.awaitsReadBeat : BpcState → Bool
  | .transfer op _ _ _ _ => !op.isWrite
  | _ => false

/-- Whether a row is awaited: an answer where its step awaits it (R112; log 12), the expiry while the phase timer runs
(R113; log 23). -/
def BpcState.awaits (b : BpcState) : Instr → Bool
  | .selectAccept | .selectReject | .selectWait => b.awaitsSelect
  | .writeBeatAccept | .writeBeatError => b.awaitsWriteBeat
  | .readBeatData _ _ | .readBeatError => b.awaitsReadBeat
  | .phaseTimerExpiry => b.timerEnd?.isSome
  | _ => false

/-- A row of the backplane that the controller does not await changes nothing (R112). -/
theorem exec_not_awaited {s : State} {c : Instr} (hans : answersBackplane c = true)
    (h : s.bpc.awaits c = false) : exec c s = .next s := by
  cases c with
  | selectAccept | selectReject | selectWait =>
    refine IsEvent.exec_ignored (fun _ => rfl) ?_
    split
    · next hbpc => rw [hbpc] at h; cases h
    · rfl
  | writeBeatAccept | writeBeatError =>
    refine IsEvent.exec_ignored (fun _ => rfl) ?_
    split
    · next hbpc =>
      rw [hbpc] at h
      exact if_neg (Bool.eq_false_iff.1 h)
    · rfl
  | readBeatData | readBeatError =>
    refine IsEvent.exec_ignored (fun _ => rfl) ?_
    split
    · next hbpc =>
      rw [hbpc] at h
      exact if_pos ((Bool.not_eq_false' _).mp h)
    · rfl
  | phaseTimerExpiry =>
    refine IsEvent.exec_ignored (fun _ => rfl) ?_
    split
    · next hbpc => rw [hbpc] at h; cases h
    · next hbpc => rw [hbpc] at h; cases h
    · rfl
  | _ => cases hans

theorem exec_none_awaited {s : State} {b : BpcState} (hbpc : s.bpc = b) {cs : List Instr}
    (h : ∀ c ∈ cs, answersBackplane c = true ∧ b.awaits c = false) : ∀ c ∈ cs, exec c s = .next s := by
  intro c hc
  obtain ⟨hans, hawaits⟩ := h c hc
  exact exec_not_awaited hans (hbpc ▸ hawaits)

/-- Settles O45: none of the rows named is awaited in the state of the controller named with it. -/
theorem answersNotAwaitedAreIgnored : Obligations.AnswersNotAwaitedAreIgnored := by
  intro s lanes parity
  refine ⟨fun hbpc => ?_, fun op row timer hbpc => ?_,
    fun op row timer i got hbpc => ⟨?_, fun hw => ?_, fun hw => ?_⟩⟩
  · refine exec_none_awaited hbpc fun c hc => ?_
    simp only [List.mem_cons, List.not_mem_nil, or_false] at hc
    rcases hc with rfl | rfl | rfl | rfl | rfl | rfl | rfl | rfl <;> exact ⟨rfl, rfl⟩
  · refine exec_none_awaited hbpc fun c hc => ?_
    simp only [List.mem_cons, List.not_mem_nil, or_false] at hc
    rcases hc with rfl | rfl | rfl | rfl <;> exact ⟨rfl, rfl⟩
  · refine exec_none_awaited hbpc fun c hc => ?_
    simp only [List.mem_cons, List.not_mem_nil, or_false] at hc
    rcases hc with rfl | rfl | rfl <;> exact ⟨rfl, rfl⟩
  · have hread : (!op.isWrite) = false := by rw [Operation.isWrite_of_code hw]; rfl
    refine exec_none_awaited hbpc fun c hc => ?_
    simp only [List.mem_cons, List.not_mem_nil, or_false] at hc
    rcases hc with rfl | rfl <;> exact ⟨rfl, hread⟩
  · have hwrite : op.isWrite = false := Operation.isWrite_of_code_ne hw
    refine exec_none_awaited hbpc fun c hc => ?_
    simp only [List.mem_cons, List.not_mem_nil, or_false] at hc
    rcases hc with rfl | rfl <;> exact ⟨rfl, hwrite⟩

end Sys2Proof.Machine

/-! PROOF. The statements of 06_the_slot_table.md: the reports to the slot table, SLOT_PROBE and SLOT_FENCE, and the
alert inputs. Before them one rule for each case of the operations on a slot's record. -/

namespace Sys2Proof.Machine

/-! ### Changes of a slot's record -/

/-- SLOT_CHANGE names the state that the slot held and the one it has now (R131). -/
theorem State.changeSlot_raise (s : State) {i : Fin 16} (r : Slot) (c : ChangeCause) {was : SlotCode}
    (hwas : (s.slot i).state.name = was) :
    s.changeSlot i r c =
      ({ s with slots := s.slots.set i r } : State).raise (.slotChange i was r.state.name c r.identity) := by
  subst hwas
  rfl

theorem State.changeSlot_up (s : State) (i : Fin 16) (r : Slot) (c : ChangeCause) (n : Link) :
    ((s.changeSlot i r c).port n).up = (s.port n).up := State.raise_up _ _ n

/-! ### Reports of failed outcomes -/

theorem Slot.countFailure_rejected (r : Slot) (posted : Bool) :
    r.countFailure .rejected posted =
      { r with
        rejects := rise r.rejects
        postedLost := if posted then rise r.postedLost else r.postedLost } := by
  cases posted <;> rfl

theorem Slot.countFailure_dataError (r : Slot) (posted : Bool) :
    r.countFailure .dataError posted =
      { r with
        dataErrors := rise r.dataErrors
        postedLost := if posted then rise r.postedLost else r.postedLost } := by
  cases posted <;> rfl

/-- The consecutive count rises to at most 7 (R132). -/
theorem Slot.countFailure_timeout (r : Slot) (posted : Bool) :
    r.countFailure .timeout posted =
      { r with
        timeouts := rise r.timeouts
        consecutive := if 7 ≤ r.consecutive then 7 else r.consecutive + 1
        postedLost := if posted then rise r.postedLost else r.postedLost } := by
  have hcount : min Config.maxConsecutive (r.consecutive + 1) =
      if 7 ≤ r.consecutive then 7 else r.consecutive + 1 := by
    unfold Config.maxConsecutive
    split <;> omega
  cases posted <;> simp [Slot.countFailure, hcount]

/-- A failed outcome other than TIMEOUT never fences its slot (R132, R133). -/
theorem State.reportFailure_of_ne_timeout (s : State) (i : Fin 16) {f : Failure} (posted : Bool) (hf : f ≠ .timeout) :
    s.reportFailure i f posted = { s with slots := s.slots.set i ((s.slot i).countFailure f posted) } :=
  if_neg fun h => hf h.1

/-- A TIMEOUT that leaves its slot as it is, because the slot is not ONLINE or its count is below the limit (R133). -/
theorem State.reportFailure_timeout (s : State) (i : Fin 16) (posted : Bool)
    (h : ¬((s.slot i).state = .online ∧ s.faultLimit ≤ ((s.slot i).countFailure .timeout posted).consecutive)) :
    s.reportFailure i .timeout posted =
      { s with slots := s.slots.set i ((s.slot i).countFailure .timeout posted) } :=
  if_neg fun hfence => h (by simpa using hfence)

/-- A TIMEOUT that brings the count of an ONLINE slot to the fault limit fences it (R133). -/
theorem State.reportFailure_fences (s : State) (i : Fin 16) (posted : Bool) (honline : (s.slot i).state = .online)
    (hlimit : s.faultLimit ≤ ((s.slot i).countFailure .timeout posted).consecutive) :
    s.reportFailure i .timeout posted =
      s.changeSlot i { (s.slot i).countFailure .timeout posted with state := .fenced .faults } .faults :=
  if_pos ⟨rfl, by simpa using honline, hlimit⟩

/-! ### Probe results -/

/-- A probe that finds a module makes its slot ONLINE with the module's identity (R130). -/
theorem State.probeResult_found (s : State) {i : Fin 16} {prior : PriorState}
    (h : (s.slot i).state = .probing .issued prior) (ident : BitVec 32) :
    s.probeResult i (some ident) =
      s.changeSlot i { s.slot i with state := .online, identity := ident, consecutive := 0 } .found := by
  simp only [State.probeResult, h]

/-- A probe that finds no module makes its slot OFFLINE with identity 0 (R130). -/
theorem State.probeResult_absent (s : State) {i : Fin 16} {prior : PriorState}
    (h : (s.slot i).state = .probing .issued prior) :
    s.probeResult i none =
      s.changeSlot i { s.slot i with state := .offline, identity := 0, consecutive := 0 } .absent := by
  simp only [State.probeResult, h]

/-- The slot table ignores the result of a probe that the slot does not await (R130). -/
theorem State.probeResult_not_issued (s : State) {i : Fin 16} (h : ∀ p, (s.slot i).state ≠ .probing .issued p)
    (found : Option (BitVec 32)) : s.probeResult i found = s := by
  unfold State.probeResult
  split
  · next prior hissued => exact absurd hissued (h prior)
  · rfl

/-- Settles O41: a failed outcome by its kind, a TIMEOUT by whether it fences, and a probe result by the stage of
the probe. -/
theorem slotReportsCountFenceAndProbe : Obligations.SlotReportsCountFenceAndProbe := by
  refine ⟨fun s i posted => ?_,
    fun s i prior ident => ⟨fun hissued => ⟨?_, ?_⟩, fun h => s.probeResult_not_issued h⟩⟩
  · intro lost count timedOut
    have htimedOut : (s.slot i).countFailure .timeout posted = timedOut := (s.slot i).countFailure_timeout posted
    refine ⟨?_, ?_, fun hfence => ?_, fun hstays => ?_⟩
    · rw [s.reportFailure_of_ne_timeout i posted (by decide), Slot.countFailure_rejected]
    · rw [s.reportFailure_of_ne_timeout i posted (by decide), Slot.countFailure_dataError]
    · obtain ⟨honline, hlimit⟩ := hfence
      rw [s.reportFailure_fences i posted honline (by rw [htimedOut]; exact hlimit), htimedOut]
      exact s.changeSlot_raise _ _ (by rw [honline]; rfl)
    · rw [s.reportFailure_timeout i posted (by rw [htimedOut]; exact hstays), htimedOut]
  · rw [s.probeResult_found hissued]
    exact s.changeSlot_raise _ _ (by rw [hissued]; rfl)
  · rw [s.probeResult_absent hissued]
    exact s.changeSlot_raise _ _ (by rw [hissued]; rfl)

/-! ### SLOT_PROBE at its owner -/

theorem ownerSlotProbe_taken (s : State) {i : Fin 16} {prior : PriorState}
    (h : (s.slot i).state.prior? = some prior) :
    ownerSlotProbe [byte i.val] s =
      (({ s with probes := s.probes ++ [i] } : State).changeSlot i
        { s.slot i with state := .probing .queued prior } .probe).accept [] := by
  simp only [ownerSlotProbe, slotOf_byte, h]

theorem ownerSlotProbe_refused (s : State) {i : Fin 16} (h : (s.slot i).state.prior? = none) :
    ownerSlotProbe [byte i.val] s = s.refuse .slotState := by
  simp only [ownerSlotProbe, slotOf_byte, h]

theorem ownerSlotProbe_badSlot (s : State) {b : Byte} (h : 16 ≤ b.toNat) :
    ownerSlotProbe [b] s = s.refuse .badSlot := by
  simp only [ownerSlotProbe, slotOf_none b h]

/-! ### SLOT_FENCE at its owner -/

/-- The probe queue once the waiting probe of a slot, if it has one, is taken out of it (R135). -/
def State.probesLeft (s : State) (i : Fin 16) : List (Fin 16) :=
  match (s.slot i).state with
  | .probing .queued _ => s.probes.filter (· ≠ i)
  | _ => s.probes

theorem State.fence_fenced (s : State) {i : Fin 16} {c : FencedCause} (h : (s.slot i).state = .fenced c) :
    s.fence i = { s with slots := s.slots.set i { s.slot i with state := .fenced .command } } := by
  unfold State.fence
  rw [h]
  rfl

/-- A slot that was not FENCED changes its state, and its waiting probe leaves the queue (R135). -/
theorem State.fence_changes (s : State) {i : Fin 16} (h : ∀ c, (s.slot i).state ≠ .fenced c) :
    s.fence i =
      ({ s with probes := s.probesLeft i } : State).changeSlot i
        { s.slot i with state := .fenced .command } .command := by
  unfold State.fence State.probesLeft
  cases hst : (s.slot i).state with
  | fenced c => exact absurd hst (h c)
  | offline => rfl
  | online => rfl
  | probing stage prior => cases stage <;> rfl

theorem State.fence_up (s : State) (i : Fin 16) (n : Link) : ((s.fence i).port n).up = (s.port n).up := by
  by_cases h : ∃ c, (s.slot i).state = .fenced c
  · obtain ⟨c, hc⟩ := h
    rw [s.fence_fenced hc]
    rfl
  · rw [s.fence_changes fun c hc => h ⟨c, hc⟩, State.changeSlot_up]
    rfl

theorem ownerSlotFence_byte (s : State) (i : Fin 16) :
    ownerSlotFence [byte i.val] s = (s.fence i).accept [(s.slot i).state.name.code] := by
  simp only [ownerSlotFence, slotOf_byte]

theorem ownerSlotFence_badSlot (s : State) {b : Byte} (h : 16 ≤ b.toNat) :
    ownerSlotFence [b] s = s.refuse .badSlot := by
  simp only [ownerSlotFence, slotOf_none b h]

/-! ### SLOT_PROBE and SLOT_FENCE from the holder of the lease -/

section
variable {s : State} {n : Link} (tag : Byte) (hserves : s.serves n) (hlease : s.holdsLease n = true)
include hserves hlease

theorem exec_slotProbe_taken {i : Fin 16} {prior : PriorState} (h : (s.slot i).state.prior? = some prior)
    {was : SlotCode} (hwas : (s.slot i).state.name = was) :
    exec (.slotProbe n tag [byte i.val]) s = .next
      ((({ s.counted n with
          probes := s.probes ++ [i]
          slots := s.slots.set i { s.slot i with state := .probing .queued prior } } : State).raise
        (.slotChange i was .probing .probe (s.slot i).identity)).sent n [.mgmtReply tag 0x31 .ok []]) := by
  have hchange := State.changeSlot_raise { s.counted n with probes := s.probes ++ [i] }
    { s.slot i with state := .probing .queued prior } .probe hwas
  have hexec := s.manage_next n tag Config.codeSlotProbe 1 true [byte i.val] ownerSlotProbe
    (encodeFrame (.slotProbe n tag [byte i.val])) hserves rfl (fun _ => hlease) .ok [] _
    (ownerSlotProbe_taken (s.counted n) h) ((State.changeSlot_up _ i _ _ n).trans ((s.counted_up n n).trans hserves.2))
  exact congrArg Host.Outcome.next (hexec.trans (congrArg (fun t : State => t.sent n _) hchange))

theorem exec_slotProbe_refused {ops : List Byte} {st : Status} (hlen : ops.length = 1)
    (h : ownerSlotProbe ops (s.counted n) = (s.counted n).refuse st) :
    exec (.slotProbe n tag ops) s = .next (s.replied n tag 0x31 st []) :=
  congrArg Host.Outcome.next
    (s.manage_replied n tag _ 1 true ops ownerSlotProbe _ hserves hlen (fun _ => hlease) st [] h)

theorem exec_slotFence (i : Fin 16) :
    exec (.slotFence n tag [byte i.val]) s = .next
      (((s.counted n).fence i).sent n [.mgmtReply tag 0x32 .ok [(s.slot i).state.name.code]]) :=
  congrArg Host.Outcome.next (s.manage_next n tag _ 1 true _ ownerSlotFence _ hserves rfl (fun _ => hlease) .ok _ _
    (ownerSlotFence_byte (s.counted n) i) (by simpa [State.fence_up] using hserves.2))

theorem exec_slotFence_fenced {i : Fin 16} {c : FencedCause} (h : (s.slot i).state = .fenced c) :
    exec (.slotFence n tag [byte i.val]) s = .next
      (({ s with slots := s.slots.set i { s.slot i with state := .fenced .command } } : State).replied n tag 0x32 .ok
        [(s.slot i).state.name.code]) := by
  rw [exec_slotFence tag hserves hlease i, State.fence_fenced (s.counted n) h, State.replied, ← State.counted_sent]
  rfl

theorem exec_slotFence_changes {i : Fin 16} (h : ∀ c, (s.slot i).state ≠ .fenced c) :
    exec (.slotFence n tag [byte i.val]) s = .next
      ((({ s.counted n with
          probes := s.probesLeft i
          slots := s.slots.set i { s.slot i with state := .fenced .command } } : State).raise
        (.slotChange i (s.slot i).state.name .fenced .command (s.slot i).identity)).sent n
          [.mgmtReply tag 0x32 .ok [(s.slot i).state.name.code]]) := by
  rw [exec_slotFence tag hserves hlease i, State.fence_changes (s.counted n) h,
    State.changeSlot_raise _ _ .command rfl]
  rfl

theorem exec_slotFence_badSlot {b : Byte} (h : 16 ≤ b.toNat) :
    exec (.slotFence n tag [b]) s = .next (s.replied n tag 0x32 .badSlot []) :=
  congrArg Host.Outcome.next (s.manage_replied n tag _ 1 true [b] ownerSlotFence _ hserves rfl (fun _ => hlease)
    .badSlot [] (ownerSlotFence_badSlot (s.counted n) h))

end

/-- Settles O47: SLOT_PROBE and SLOT_FENCE by the state of the slot, then a slot operand above 15. -/
theorem slotProbeAndSlotFence : Obligations.SlotProbeAndSlotFence := by
  intro s n tag i hserves hlease probed fenced left was
  refine ⟨?_, ?_, fun b hb => ⟨exec_slotProbe_refused tag hserves hlease rfl (ownerSlotProbe_badSlot _ hb),
    exec_slotFence_badSlot tag hserves hlease hb⟩⟩
  · split
    · next hst => exact exec_slotProbe_taken tag hserves hlease (by rw [hst]; rfl) (by rw [hst]; rfl)
    · next c hst => exact exec_slotProbe_taken tag hserves hlease (by rw [hst]; rfl) (by rw [hst]; rfl)
    · next hoffline hfenced =>
      have hprior : (s.slot i).state.prior? = none := by
        cases hst : (s.slot i).state with
        | offline => exact absurd hst hoffline
        | fenced c => exact absurd hst (hfenced c)
        | probing stage prior => rfl
        | online => rfl
      exact exec_slotProbe_refused tag hserves hlease rfl (ownerSlotProbe_refused (s.counted n) hprior)
  · split
    · next c hst => exact exec_slotFence_fenced tag hserves hlease hst
    · next hst => exact exec_slotFence_changes tag hserves hlease hst

/-! ### Alert inputs -/

/-- The assertion that R138 reports. -/
theorem exec_alertAssertion_raises (s : State) {i : Fin 16} (hr : s.resetPin = false) (hlow : s.alertPin[i] = false)
    (honline : s.online i = true) :
    exec (.alertAssertion i true) s =
      .next (({ s with alertPin := s.alertPin.set i true } : State).raise (.moduleAlert i (s.slot i).identity)) :=
  congrArg Host.Outcome.next (if_pos ⟨rfl, hlow, hr, honline⟩)

/-- Settles O48: the assertion on an ONLINE slot, and the changes of level that are only recorded. -/
theorem alertsOfOnlineSlots : Obligations.AlertsOfOnlineSlots := fun s i hr =>
  ⟨fun hlow honline => exec_alertAssertion_raises s hr hlow honline,
    fun _ hoff => exec_alertAssertion_recorded s i true (by simp [hoff]),
    fun hhigh => exec_alertAssertion_again s i hhigh,
    exec_alertAssertion_recorded s i false (by simp)⟩

end Sys2Proof.Machine

/-! PROOF. The statements of 07_notices.md: the raises, NOTICE_ENABLE and NOTICE_ACK. Before them the emission test as a
function of the state, and what the test leaves: of one kind on one link, on both links, and of every kind. -/

namespace Sys2Proof.Machine

/-! ### The emission test of one kind on one link -/

/-- The NOTICE that the emission test of a kind on a link forms, none where the test fails (R148). -/
def State.notice? (s : State) (k : NoticeKind) (n : Link) : Option OutFrame :=
  match (s.kind k).latch with
  | .clear => none
  | .latched c d =>
    if (s.port n).up = true ∧ enabledIn (s.port n).enables k = true ∧ (s.kind k).sent.get n = false then
      some (.notice k c d)
    else none

/-- The record of a kind after its emission test on a link: the sent flag is set where a NOTICE was formed (R148). -/
def State.emitted (s : State) (k : NoticeKind) (n : Link) : KindRecord :=
  { s.kind k with sent := (s.kind k).sent.set n ((s.kind k).sent.get n || (s.notice? k n).isSome) }

theorem State.notice?_clear {s : State} {k : NoticeKind} (n : Link) (h : (s.kind k).latch = .clear) :
    s.notice? k n = none := by
  simp only [State.notice?, h]

theorem State.notice?_latched {s : State} {k : NoticeKind} {c : Byte} {d : Detail} (n : Link)
    (h : (s.kind k).latch = .latched c d) :
    s.notice? k n =
      if (s.port n).up = true ∧ enabledIn (s.port n).enables k = true ∧ (s.kind k).sent.get n = false then
        some (.notice k c d)
      else none := by
  simp only [State.notice?, h]

/-- The emission test reads the latch and the sent flag of its kind, and of its port the state and the enable set. -/
theorem State.notice?_congr {s t : State} {k : NoticeKind} {n : Link} (hlatch : (t.kind k).latch = (s.kind k).latch)
    (hsent : (t.kind k).sent.get n = (s.kind k).sent.get n) (hup : (t.port n).up = (s.port n).up)
    (henables : (t.port n).enables = (s.port n).enables) : t.notice? k n = s.notice? k n := by
  simp only [State.notice?, hlatch, hsent, hup, henables]

theorem State.sent_nil (s : State) (n : Link) : s.sent n [] = s := by
  have hport : { s.ports.get n with outbound := (s.ports.get n).outbound ++ [] } = s.ports.get n := by
    rw [List.append_nil]
  rw [State.sent, hport, PerLink.set_get]

theorem State.updKind_self (s : State) (k : NoticeKind) : (s.updKind k fun _ => s.kind k) = s := by
  have hkinds : (updAt s.kinds k.index fun _ => s.kind k) = s.kinds := Vector.set_getElem_self _
  rw [State.updKind, hkinds]

/-- What an emission test does, passed or failed: it sends the NOTICE it forms and rewrites its kind's record. -/
theorem State.emit_eq (s : State) (k : NoticeKind) (n : Link) :
    s.emit k n = (s.sent n (s.notice? k n).toList).updKind k fun _ => s.emitted k n := by
  have hkeeps (h : s.notice? k n = none) :
      s = (s.sent n (s.notice? k n).toList).updKind k fun _ => s.emitted k n := by
    have hrecord : s.emitted k n = s.kind k := by simp [State.emitted, h]
    rw [h, hrecord, Option.toList_none, State.sent_nil, State.updKind_self]
  cases hl : (s.kind k).latch with
  | clear =>
    have hnone := s.notice?_clear n hl
    simpa only [State.emit, hl] using hkeeps hnone
  | latched c d =>
    by_cases hpass : (s.port n).up = true ∧ enabledIn (s.port n).enables k = true ∧ (s.kind k).sent.get n = false
    · have hsome := (s.notice?_latched n hl).trans (if_pos hpass)
      simp only [State.emit, hl, if_pos hpass, s.form_sent n _ hpass.1, State.emitted, hsome, Option.isSome_some,
        Bool.or_true]
      rw [← hl]
      rfl
    · have hnone := (s.notice?_latched n hl).trans (if_neg hpass)
      simpa only [State.emit, hl, if_neg hpass] using hkeeps hnone

theorem State.emit_port (s : State) (k : NoticeKind) (n m : Link) :
    (s.emit k n).port m =
      if m = n then { s.port n with outbound := (s.port n).outbound ++ (s.notice? k n).toList } else s.port m := by
  rw [s.emit_eq k n]
  exact PerLink.get_set _ _ _ _

theorem State.emit_kind (s : State) (k j : NoticeKind) (n : Link) :
    (s.emit k n).kind j = if j = k then s.emitted k n else s.kind j := by
  rw [s.emit_eq k n, State.updKind_kind]
  rfl

theorem State.emit_sent (s : State) (k : NoticeKind) (n m : Link) :
    ((s.emit k n).kind k).sent.get m =
      if m = n then (s.kind k).sent.get n || (s.notice? k n).isSome else (s.kind k).sent.get m := by
  rw [s.emit_kind, if_pos rfl]
  exact PerLink.get_set _ _ _ _

theorem State.emit_latch (s : State) (k j : NoticeKind) (n : Link) :
    ((s.emit k n).kind j).latch = (s.kind j).latch := by
  obtain ⟨_, _, hkinds, _, _⟩ := s.emit_spec k n
  exact (hkinds j).1

/-- A test on one link does not reach the other: neither its port nor its sent flag, and so not its test. -/
theorem State.emit_notice?_other (s : State) (k : NoticeKind) (n : Link) :
    (s.emit k n).notice? k n.other = s.notice? k n.other := by
  obtain ⟨_, hport, hkinds, _, _⟩ := s.emit_spec k n
  exact State.notice?_congr (s.emit_latch k k n) (hkinds k).2 (by rw [hport]) (by rw [hport])

/-- The test of one kind does not reach the test of another on the same link. -/
theorem State.emit_notice?_of_ne (s : State) {k j : NoticeKind} (n : Link) (h : j ≠ k) :
    (s.emit k n).notice? j n = s.notice? j n := by
  have hkind : (s.emit k n).kind j = s.kind j := (s.emit_kind k j n).trans (if_neg h)
  have henables : ((s.emit k n).port n).enables = (s.port n).enables := by rw [s.emit_port, if_pos rfl]
  exact State.notice?_congr (by rw [hkind]) (by rw [hkind]) (s.emit_up k n n) henables

/-! ### A raise: the test on both links -/

/-- The state of a raise at its emission tests: the kind is latched, or its count has risen (R146). -/
def State.latched (s : State) (d : Detail) : State :=
  s.updKind d.kind fun r => { r with latch := r.latch.raise d }

theorem Latch.raise_latched (c : Byte) (old d : Detail) :
    (Latch.latched c old).raise d = .latched (if c = 255 then 255 else c + 1) old := by
  simp only [Latch.raise, riseCount]
  split
  · next h => rw [h]
  · rfl

theorem State.latched_kind (s : State) (d : Detail) (k : NoticeKind) :
    (s.latched d).kind k =
      if k = d.kind then { s.kind d.kind with latch := (s.kind d.kind).latch.raise d } else s.kind k :=
  s.updKind_kind _ _ _

/-- A raise is the change of its kind's record and then the two tests, link 0 first (R146). -/
theorem State.raise_eq (s : State) (d : Detail) :
    s.raise d = ((s.latched d).emit d.kind .l0).emit d.kind .l1 := rfl

/-- A raise forms on each link the NOTICE of that link's test (R146, R148). -/
theorem State.raise_port (s : State) (d : Detail) (n : Link) :
    (s.raise d).port n =
      { s.port n with outbound := (s.port n).outbound ++ ((s.latched d).notice? d.kind n).toList } := by
  have htest : ((s.latched d).emit d.kind .l0).notice? d.kind .l1 = (s.latched d).notice? d.kind .l1 :=
    (s.latched d).emit_notice?_other d.kind .l0
  cases n with
  | l0 => rw [s.raise_eq, State.emit_port, if_neg (by decide), State.emit_port, if_pos rfl]; rfl
  | l1 => rw [s.raise_eq, State.emit_port, if_pos rfl, htest, State.emit_port, if_neg (by decide)]; rfl

/-- A raise sets on each link the sent flag of its kind where that link's test forms a NOTICE (R148). -/
theorem State.raise_sent (s : State) (d : Detail) (n : Link) :
    ((s.raise d).kind d.kind).sent.get n =
      ((s.kind d.kind).sent.get n || ((s.latched d).notice? d.kind n).isSome) := by
  have htest : ((s.latched d).emit d.kind .l0).notice? d.kind .l1 = (s.latched d).notice? d.kind .l1 :=
    (s.latched d).emit_notice?_other d.kind .l0
  have hsent : ((s.latched d).kind d.kind).sent = (s.kind d.kind).sent := by rw [s.latched_kind, if_pos rfl]
  cases n with
  | l0 => rw [s.raise_eq, State.emit_sent, if_neg (by decide), State.emit_sent, if_pos rfl, hsent]
  | l1 => rw [s.raise_eq, State.emit_sent, if_pos rfl, htest, State.emit_sent, if_neg (by decide), hsent]

theorem State.raise_latch (s : State) (d : Detail) :
    ((s.raise d).kind d.kind).latch = (s.kind d.kind).latch.raise d := by
  rw [s.raise_eq, State.emit_latch, State.emit_latch, s.latched_kind, if_pos rfl]

/-- A raise on one kind does not reach the record of another (R146). -/
theorem State.raise_kind_of_ne (s : State) {d : Detail} {k : NoticeKind} (h : k ≠ d.kind) :
    (s.raise d).kind k = s.kind k := by
  rw [s.raise_eq, State.emit_kind, if_neg h, State.emit_kind, if_neg h, s.latched_kind, if_neg h]

/-- A raise writes the ports and the kind records alone. -/
theorem State.raise_frame (s : State) (d : Detail) :
    s.raise d = { s with ports := (s.raise d).ports, kinds := (s.raise d).kinds } :=
  congrArg (fun t : State => { t with ports := (s.raise d).ports, kinds := (s.raise d).kinds })
    (State.raise_keeps (fun t => { t with ports := s.ports, kinds := s.kinds }) (fun _ _ _ => rfl) (fun _ _ => rfl) s d)

/-- The test of a raise on one link, over the state before the raise: the kind is LATCHED by then. -/
theorem State.latched_notice? (s : State) {d old : Detail} {c : Byte} (n : Link)
    (h : (s.kind d.kind).latch.raise d = .latched c old) :
    (s.latched d).notice? d.kind n =
      if (s.port n).up = true ∧ enabledIn (s.port n).enables d.kind = true ∧ (s.kind d.kind).sent.get n = false then
        some (.notice d.kind c old)
      else none := by
  have hkind := s.latched_kind d d.kind
  rw [if_pos rfl] at hkind
  have hlatch : ((s.latched d).kind d.kind).latch = .latched c old := by rw [hkind]; exact h
  rw [State.notice?_latched n hlatch, hkind]
  rfl

/-- Settles O49: the latch by its state before the raise, each link by whether its test passes. -/
theorem raisesLatchAndEmit : Obligations.RaisesLatchAndEmit := by
  intro s d u count kept
  have hlatch : (s.kind d.kind).latch.raise d = .latched count kept := by
    simp only [count, kept]
    cases (s.kind d.kind).latch with
    | clear => rfl
    | latched c old => exact Latch.raise_latched c old d
  refine ⟨(s.raise_latch d).trans hlatch, fun n => ?_, fun k hk => s.raise_kind_of_ne hk, s.raise_frame d⟩
  have hport := s.raise_port d n
  have hsent := s.raise_sent d n
  rw [s.latched_notice? n hlatch] at hport hsent
  split
  · next hpass =>
    rw [if_pos hpass] at hport hsent
    exact ⟨hport, by simpa using hsent⟩
  · next hfail =>
    rw [if_neg hfail] at hport hsent
    exact ⟨by simpa using hport, by simpa using hsent⟩

/-! ### NOTICE_ENABLE: the test of every kind on one link -/

/-- The test of one kind does not reach the NOTICEs that the tests of other kinds form on the same link. -/
theorem State.emit_notices_of_not_mem (s : State) {k : NoticeKind} (n : Link) {ks : List NoticeKind} (hk : k ∉ ks) :
    (ks.filterMap fun j => (s.emit k n).notice? j n) = ks.filterMap fun j => s.notice? j n := by
  induction ks with
  | nil => rfl
  | cons j ks ih =>
    have hkj : k ≠ j := List.ne_of_not_mem_cons hk
    have hks : k ∉ ks := List.not_mem_of_not_mem_cons hk
    rw [List.filterMap_cons, List.filterMap_cons, ih hks, s.emit_notice?_of_ne n hkj.symm]

/-- The tests of distinct kinds, one after the other: each forms the NOTICE that it would form by itself. -/
theorem State.foldl_emit_eq (n : Link) {ks : List NoticeKind} (hks : ks.Nodup) (s : State) :
    ks.foldl (fun t k => t.emit k n) s =
      { s.sent n (ks.filterMap fun k => s.notice? k n) with kinds := (ks.foldl (fun t k => t.emit k n) s).kinds } := by
  induction ks generalizing s with
  | nil => exact (s.sent_nil n).symm
  | cons k ks ih =>
    obtain ⟨hk, hks⟩ := List.nodup_cons.1 hks
    have hsplit : ((k :: ks).filterMap fun j => s.notice? j n) =
        (s.notice? k n).toList ++ ks.filterMap fun j => s.notice? j n := by
      cases h : s.notice? k n <;> simp [h]
    rw [List.foldl_cons, ih hks (s.emit k n), s.emit_notices_of_not_mem n hk, hsplit, ← State.sent_sent, s.emit_eq k n]
    rfl

/-- The tests of distinct kinds leave each of them as its own test does, and every other kind as it was. -/
theorem State.foldl_emit_kind (n : Link) {ks : List NoticeKind} (hks : ks.Nodup) (s : State) (j : NoticeKind) :
    (ks.foldl (fun t k => t.emit k n) s).kind j = if j ∈ ks then s.emitted j n else s.kind j := by
  induction ks generalizing s with
  | nil => rfl
  | cons k ks ih =>
    obtain ⟨hk, hks⟩ := List.nodup_cons.1 hks
    rw [List.foldl_cons, ih hks (s.emit k n)]
    by_cases hj : j = k
    · subst hj
      simp [hk, State.emit_kind]
    · have hkind : (s.emit k n).kind j = s.kind j := (s.emit_kind k j n).trans (if_neg hj)
      have hemitted : (s.emit k n).emitted j n = s.emitted j n := by
        simp only [State.emitted, hkind, s.emit_notice?_of_ne n hj]
      simp [hj, hkind, hemitted]

theorem NoticeKind.mem_all (k : NoticeKind) : k ∈ NoticeKind.all := by cases k <;> decide

theorem NoticeKind.all_nodup : NoticeKind.all.Nodup := by decide

theorem State.emitAll_eq (s : State) (n : Link) :
    s.emitAll n =
      { s.sent n (NoticeKind.all.filterMap fun k => s.notice? k n) with kinds := (s.emitAll n).kinds } :=
  State.foldl_emit_eq n NoticeKind.all_nodup s

theorem State.emitAll_kind (s : State) (n : Link) (k : NoticeKind) : (s.emitAll n).kind k = s.emitted k n :=
  (State.foldl_emit_kind n NoticeKind.all_nodup s k).trans (if_pos k.mem_all)

theorem State.emitAll_up (s : State) (n m : Link) : ((s.emitAll n).port m).up = (s.port m).up := by
  simp only [State.emitAll, NoticeKind.all, List.foldl_cons, List.foldl_nil, State.emit_up]

/-- The state of a NOTICE_ENABLE at its emission tests: the frame is counted and the new set is in force (R147). -/
def State.enabling (s : State) (n : Link) (set : Byte) : State :=
  (s.counted n).updPort n fun p => { p with enables := set }

theorem State.enabling_eq (s : State) (n : Link) (set : Byte) :
    s.enabling n set =
      { s with
        ports := s.ports.set n { s.port n with framesTaken := rise (s.port n).framesTaken, enables := set } } := by
  simp [State.enabling, State.counted, State.updPort, State.port]

theorem State.enabling_port (s : State) (n : Link) (set : Byte) :
    (s.enabling n set).port n =
      { s.port n with framesTaken := rise (s.port n).framesTaken, enables := set } := by
  rw [s.enabling_eq]
  exact PerLink.get_set_self _ _ _

theorem State.enabling_kind (s : State) (n : Link) (set : Byte) (k : NoticeKind) :
    (s.enabling n set).kind k = s.kind k := rfl

/-- The test of a kind at a NOTICE_ENABLE of an UP link: the new set decides (R147, R148). -/
theorem State.enabling_notice?_latched {s : State} {n : Link} (hup : (s.port n).up = true) (set : Byte)
    {k : NoticeKind} {c : Byte} {d : Detail} (h : (s.kind k).latch = .latched c d) :
    (s.enabling n set).notice? k n =
      if enabledIn set k = true ∧ (s.kind k).sent.get n = false then some (.notice k c d) else none := by
  rw [State.notice?_latched n (by rw [s.enabling_kind]; exact h), s.enabling_port, s.enabling_kind]
  simp [hup]

/-- The flag of a kind after a NOTICE_ENABLE of an UP link: set where it was, and where a LATCHED kind is enabled. -/
theorem State.enabling_emitted {s : State} {n : Link} (hup : (s.port n).up = true) (set : Byte) (k : NoticeKind) :
    (s.enabling n set).emitted k n = { s.kind k with
      sent := (s.kind k).sent.set n ((s.kind k).sent.get n ||
        (enabledIn set k && decide ((s.kind k).latch ≠ .clear))) } := by
  simp only [State.emitted, s.enabling_kind]
  cases hl : (s.kind k).latch with
  | clear => simp [State.notice?_clear (s := s.enabling n set) n hl]
  | latched c d =>
    rw [State.enabling_notice?_latched hup set hl]
    cases (s.kind k).sent.get n <;> cases enabledIn set k <;> simp

theorem exec_noticeEnable {s : State} {n : Link} (tag : Byte) (hserves : s.serves n) (set : Byte) :
    exec (.noticeEnable n tag [set]) s =
      .next (((s.enabling n set).emitAll n).sent n [.mgmtReply tag 0x40 .ok [set]]) := by
  have hup : (((s.enabling n set).emitAll n).port n).up = true := by
    rw [State.emitAll_up, s.enabling_port]
    exact hserves.2
  exact congrArg Host.Outcome.next
    (s.manage_next n tag _ 1 false [set] (ownerNoticeEnable n) _ hserves rfl (by simp) .ok [set] _ rfl hup)

/-- The ports after a NOTICE_ENABLE: the sender's alone has changed, and the reply stands behind the NOTICEs. -/
theorem State.enabled_eq (s : State) (n : Link) (set : Byte) (reply : OutFrame) :
    ((s.enabling n set).emitAll n).sent n [reply] =
      { s with
        ports := s.ports.set n { s.port n with
          framesTaken := rise (s.port n).framesTaken, enables := set
          outbound := (s.port n).outbound ++
            (NoticeKind.all.filterMap fun k => (s.enabling n set).notice? k n) ++ [reply] }
        kinds := ((s.enabling n set).emitAll n).kinds } := by
  rw [(s.enabling n set).emitAll_eq n]
  simp [State.enabling_eq, State.sent]

theorem State.enabled_port (s : State) (n : Link) (set : Byte) (reply : OutFrame) :
    (((s.enabling n set).emitAll n).sent n [reply]).port n = { s.port n with
      framesTaken := rise (s.port n).framesTaken, enables := set
      outbound := (s.port n).outbound ++
        (NoticeKind.all.filterMap fun k => (s.enabling n set).notice? k n) ++ [reply] } := by
  rw [State.enabled_eq]
  exact PerLink.get_set_self _ _ _

theorem State.sent_kind (s : State) (n : Link) (fs : List OutFrame) (k : NoticeKind) :
    (s.sent n fs).kind k = s.kind k := rfl

theorem State.enabled_kind {s : State} {n : Link} (hup : (s.port n).up = true) (set : Byte) (reply : OutFrame)
    (k : NoticeKind) :
    (((s.enabling n set).emitAll n).sent n [reply]).kind k = { s.kind k with
      sent := (s.kind k).sent.set n ((s.kind k).sent.get n ||
        (enabledIn set k && decide ((s.kind k).latch ≠ .clear))) } := by
  rw [State.sent_kind, State.emitAll_kind, State.enabling_emitted hup]

/-- A NOTICE_ENABLE writes the sender's port and the kind records alone. -/
theorem State.enabled_frame (s : State) (n : Link) (set : Byte) (reply : OutFrame) :
    ((s.enabling n set).emitAll n).sent n [reply] =
      { s with
        ports := s.ports.set n ((((s.enabling n set).emitAll n).sent n [reply]).port n)
        kinds := (((s.enabling n set).emitAll n).sent n [reply]).kinds } := by
  rw [State.enabled_port, State.sent_kinds, ← s.enabled_eq n set reply]

/-! ### NOTICE_ACK at its owner -/

theorem ownerNoticeAck_clear {s : State} {k : NoticeKind} (h : (s.kind k).latch = .clear) :
    ownerNoticeAck [k.number] s = s.refuse .notLatched := by
  simp only [ownerNoticeAck, kindOf_number, h]

theorem ownerNoticeAck_latched {s : State} {k : NoticeKind} {c : Byte} {d : Detail}
    (h : (s.kind k).latch = .latched c d) :
    ownerNoticeAck [k.number] s = (s.updKind k fun _ => .reset).accept [c] := by
  simp only [ownerNoticeAck, kindOf_number, h]

theorem ownerNoticeAck_badValue (s : State) {b : Byte} (h : b.toNat = 0 ∨ 9 ≤ b.toNat) :
    ownerNoticeAck [b] s = s.refuse .badValue := by
  simp only [ownerNoticeAck, kindOf_none b h]

section
variable {s : State} {n : Link} (tag : Byte) (hserves : s.serves n)
include hserves

theorem exec_noticeAck_refused {b : Byte} {st : Status}
    (h : ownerNoticeAck [b] (s.counted n) = (s.counted n).refuse st) :
    exec (.noticeAck n tag [b]) s = .next (s.replied n tag 0x41 st []) :=
  congrArg Host.Outcome.next
    (s.manage_replied n tag _ 1 false [b] ownerNoticeAck _ hserves rfl (by simp) st [] h)

theorem exec_noticeAck_latched {k : NoticeKind} {c : Byte} {d : Detail} (h : (s.kind k).latch = .latched c d) :
    exec (.noticeAck n tag [k.number]) s = .next
      (({ s with kinds := s.kinds.set k.index ⟨.clear, ⟨false, false⟩⟩ } : State).replied n tag 0x41 .ok [c]) := by
  have hexec := s.manage_next n tag Config.codeNoticeAck 1 false [k.number] ownerNoticeAck
    (encodeFrame (.noticeAck n tag [k.number])) hserves rfl (by simp) .ok [c] _
    (ownerNoticeAck_latched (s := s.counted n) h) ((s.counted_up n n).trans hserves.2)
  refine congrArg Host.Outcome.next (hexec.trans ?_)
  rw [State.replied, ← State.counted_sent]
  rfl

end

/-- Settles O50: NOTICE_ENABLE by the tests of the eight kinds, NOTICE_ACK by the latch of its kind. -/
theorem noticeEnableAndNoticeAck : Obligations.NoticeEnableAndNoticeAck := by
  intro s n tag hserves
  refine ⟨fun set => ⟨_, exec_noticeEnable tag hserves set, ?_⟩, fun k => ?_,
    fun b hb => exec_noticeAck_refused tag hserves (ownerNoticeAck_badValue _ hb)⟩
  · intro formed
    refine ⟨?_, State.enabled_kind hserves.2 set _, s.enabled_frame n set _⟩
    have hformed : (NoticeKind.all.filterMap fun k => (s.enabling n set).notice? k n) = formed := by
      refine congrArg (NoticeKind.all.filterMap ·) (funext fun k => ?_)
      cases hl : (s.kind k).latch with
      | clear => exact State.notice?_clear n hl
      | latched c d => exact State.enabling_notice?_latched hserves.2 set hl
    rw [s.enabled_port, hformed]
  · split
    · next hclear => exact exec_noticeAck_refused tag hserves (ownerNoticeAck_clear (s := s.counted n) hclear)
    · next c d hlatched => exact exec_noticeAck_latched tag hserves hlatched

end Sys2Proof.Machine

/-! PROOF. The statements of 08_management_lease_and_command_set.md: the checks of management frames, the reading
commands, the counters, and the lease. Each served command is settled by the answer of its owner. -/

namespace Sys2Proof.Machine

/-! ### The management commands by their checks -/

/-- The command is a management command of a known code, with the number of operand bytes it takes and whether it needs
the lease (R158, R159). -/
def IsManaged (c : Instr) (n : Link) (tag code : Byte) (count : Nat) (lease : Bool) (ops : List Byte) : Prop :=
  ∃ owner, Arrives c n (encodeFrame c) (·.manage n tag code count lease ops owner)

/-- The commands that any link may send, each with its code and the number of its operand bytes (R161, R203). -/
def openCommands (n : Link) (tag : Byte) (ops : List Byte) : List (Instr × Byte × Nat) :=
  [(.leaseTake n tag ops, 0x02, 1), (.identify n tag ops, 0x01, 0), (.countersRead n tag ops, 0x50, 2),
    (.windowRead n tag ops, 0x14, 2), (.ticketSummary n tag ops, 0x22, 0), (.slotStatus n tag ops, 0x34, 1),
    (.noticeEnable n tag ops, 0x40, 1), (.noticeAck n tag ops, 0x41, 1), (.noticeRead n tag ops, 0x42, 1)]

/-- The commands that need the lease, each with its code and the number of its operand bytes (R161, R203). -/
def leaseCommands (n : Link) (tag : Byte) (ops : List Byte) : List (Instr × Byte × Nat) :=
  [(.leaseRenew n tag ops, 0x03, 0), (.leaseDrop n tag ops, 0x04, 0), (.countersClear n tag ops, 0x51, 2),
    (.gateReset n tag ops, 0x52, 0), (.windowStage n tag ops, 0x10, 18), (.windowUnstageClear n tag ops, 0x11, 2),
    (.windowUnstageWithdraw n tag ops, 0x11, 2), (.windowCommit n tag ops, 0x12, 1),
    (.windowLock n tag ops, 0x13, 2), (.setQuota n tag ops, 0x20, 2), (.setDiscard n tag ops, 0x21, 1),
    (.setBpTimeout n tag ops, 0x30, 1), (.slotProbe n tag ops, 0x31, 1), (.slotFence n tag ops, 0x32, 1),
    (.setFaultLimit n tag ops, 0x33, 1)]

theorem openCommands_managed (n : Link) (tag : Byte) (ops : List Byte) :
    ∀ row ∈ openCommands n tag ops, IsManaged row.1 n tag row.2.1 row.2.2 false ops := by
  simp only [openCommands, List.forall_mem_cons, List.not_mem_nil, false_imp_iff, implies_true, and_true]
  and_intros <;> exact ⟨_, fun _ => rfl⟩

theorem leaseCommands_managed (n : Link) (tag : Byte) (ops : List Byte) :
    ∀ row ∈ leaseCommands n tag ops, IsManaged row.1 n tag row.2.1 row.2.2 true ops := by
  simp only [leaseCommands, List.forall_mem_cons, List.not_mem_nil, false_imp_iff, implies_true, and_true]
  and_intros <;> exact ⟨_, fun _ => rfl⟩

section
variable {s : State} {n : Link} {c : Instr} {tag code : Byte} {count : Nat} {lease : Bool} {ops : List Byte}

/-- Check 2 of R159, for a served frame. -/
theorem IsManaged.exec_badLength (hc : IsManaged c n tag code count lease ops) (hserves : s.serves n)
    (hlen : ops.length ≠ count) : exec c s = .next (s.replied n tag code .badValue []) := by
  obtain ⟨owner, harr⟩ := hc
  rw [harr s, s.manage_badLength n tag code count lease ops owner _ hserves hlen]

/-- Check 3 of R159, for a served frame (R161, law 11). -/
theorem IsManaged.exec_notOwner (hc : IsManaged c n tag code count true ops) (hserves : s.serves n)
    (hlen : ops.length = count) (hother : s.holdsLease n = false) :
    exec c s = .next (s.replied n tag code .notOwner []) := by
  obtain ⟨owner, harr⟩ := hc
  rw [harr s, s.manage_notOwner n tag code count ops owner _ hserves hlen hother]

/-- Check 1 of R159, for a served frame. -/
theorem exec_mgmtUnknownCommand (hserves : s.serves n) :
    exec (.mgmtUnknownCommand n tag code ops) s = .next (s.replied n tag code .unknownCommand []) := by
  have harr : Arrives (.mgmtUnknownCommand n tag code ops) n _ (takeMgmtUnknown n tag code) := fun _ => rfl
  rw [harr.exec_takesNow s hserves.1, takeMgmtUnknown, s.dispatch_up n _ hserves.2,
    s.refuse_reply n tag code _ hserves.2]

end

/-- Settles O51: each command of the two tables makes the checks of R159 with the values of its row. -/
theorem managementFramesAreChecked : Obligations.ManagementFramesAreChecked := fun _ n tag ops hserves =>
  ⟨fun _ => exec_mgmtUnknownCommand hserves,
    fun row hrow => (openCommands_managed n tag ops row hrow).exec_badLength hserves,
    fun row hrow =>
      have hc := leaseCommands_managed n tag ops row hrow
      ⟨hc.exec_badLength hserves, hc.exec_notOwner hserves⟩⟩

/-! ### Served commands that answer and change nothing else -/

section
variable {s : State} {n : Link} {c : Instr} {f : Option RawFrame} {tag code : Byte} {count : Nat} {lease : Bool}
  {ops : List Byte} {owner : List Byte → State → MgmtAnswer}

/-- A served management command whose owner changes nothing: the reply carries its answer (R160). -/
theorem Arrives.exec_replied (harr : Arrives c n f (·.manage n tag code count lease ops owner)) (hserves : s.serves n)
    (hlen : ops.length = count) (hlease : lease = true → s.holdsLease n = true) {st : Status} {rs : List Byte}
    (hanswer : owner ops (s.counted n) = ⟨st, rs, s.counted n⟩) : exec c s = .next (s.replied n tag code st rs) := by
  rw [harr s, s.manage_replied n tag code count lease ops owner f hserves hlen hlease st rs hanswer]

/-- A served management command whose owner leaves the link UP: the reply follows its effect (R160, R162). -/
theorem Arrives.exec_sent (harr : Arrives c n f (·.manage n tag code count lease ops owner)) (hserves : s.serves n)
    (hlen : ops.length = count) (hlease : lease = true → s.holdsLease n = true) {st : Status} {rs : List Byte}
    {t : State} (hanswer : owner ops (s.counted n) = ⟨st, rs, t⟩) (hup : (t.port n).up = true) :
    exec c s = .next (t.sent n [.mgmtReply tag code st rs]) := by
  rw [harr s, s.manage_next n tag code count lease ops owner f hserves hlen hlease st rs t hanswer hup]

end

/-! ### The reading commands at their owners -/

theorem ownerWindowRead_byte (s : State) (i : Fin 32) (staged : Bool) :
    ownerWindowRead [byte i.val, flagByte staged] s =
      s.accept ([byte s.locks[i].rank, s.staging[i].code] ++
        recordResults (if staged then s.staging[i].record? else s.active[i])) := by
  simp only [ownerWindowRead, indexOf_byte, flagOf_flagByte]

theorem ownerSlotStatus_byte (s : State) (i : Fin 16) : ownerSlotStatus [byte i.val] s = s.accept (s.slotStatus i) := by
  simp only [ownerSlotStatus, slotOf_byte]

theorem ownerSlotStatus_badSlot (s : State) {b : Byte} (h : 16 ≤ b.toNat) :
    ownerSlotStatus [b] s = s.refuse .badSlot := by
  simp only [ownerSlotStatus, slotOf_none b h]

theorem ownerNoticeRead_number (s : State) (n : Link) (k : NoticeKind) :
    ownerNoticeRead n [k.number] s = s.accept (s.noticeResults n k) := by
  simp only [ownerNoticeRead, kindOf_number]

theorem ownerNoticeRead_badValue (s : State) (n : Link) {b : Byte} (h : b.toNat = 0 ∨ 9 ≤ b.toNat) :
    ownerNoticeRead n [b] s = s.refuse .badValue := by
  simp only [ownerNoticeRead, kindOf_none b h]

@[simp] theorem State.counted_linkSummary (s : State) (n m : Link) :
    (s.counted n).linkSummary m = s.linkSummary m := rfl

@[simp] theorem State.counted_countTickets (s : State) (n : Link) (p : TicketState → Bool) :
    (s.counted n).countTickets p = s.countTickets p := rfl

/-- The taking of a frame writes nothing that TICKET_SUMMARY reads. -/
theorem ownerTicketSummary_counted (s : State) (n : Link) :
    ownerTicketSummary [] (s.counted n) =
      (s.counted n).accept
        (s.linkSummary .l0 ++ s.linkSummary .l1 ++ [byte (s.countTickets fun st => st = .free)]) := by
  simp only [ownerTicketSummary, State.counted_linkSummary, State.counted_countTickets]

/-- The taking of a frame writes nothing that NOTICE_READ reads. -/
theorem State.counted_noticeResults (s : State) (n : Link) (k : NoticeKind) :
    (s.counted n).noticeResults n k = s.noticeResults n k := by
  simp only [State.noticeResults, State.counted_port, if_true]
  rfl

section
variable {s : State} {n : Link} (tag : Byte) (hserves : s.serves n)
include hserves

theorem exec_identify : exec (.identify n tag []) s = .next (s.replied n tag 0x01 .ok (identity n)) :=
  Arrives.exec_replied (fun _ => rfl) hserves rfl (by simp) rfl

theorem exec_windowRead (i : Fin 32) (staged : Bool) :
    exec (.windowRead n tag [byte i.val, flagByte staged]) s = .next (s.replied n tag 0x14 .ok
      ([byte s.locks[i].rank, s.staging[i].code] ++
        recordResults (if staged then s.staging[i].record? else s.active[i]))) :=
  Arrives.exec_replied (fun _ => rfl) hserves rfl (by simp) (ownerWindowRead_byte (s.counted n) i staged)

theorem exec_ticketSummary : exec (.ticketSummary n tag []) s = .next (s.replied n tag 0x22 .ok
    (s.linkSummary .l0 ++ s.linkSummary .l1 ++ [byte (s.countTickets fun st => st = .free)])) :=
  Arrives.exec_replied (fun _ => rfl) hserves rfl (by simp) (ownerTicketSummary_counted s n)

theorem exec_slotStatus (i : Fin 16) :
    exec (.slotStatus n tag [byte i.val]) s = .next (s.replied n tag 0x34 .ok (s.slotStatus i)) :=
  Arrives.exec_replied (fun _ => rfl) hserves rfl (by simp) (ownerSlotStatus_byte (s.counted n) i)

theorem exec_slotStatus_badSlot {b : Byte} (h : 16 ≤ b.toNat) :
    exec (.slotStatus n tag [b]) s = .next (s.replied n tag 0x34 .badSlot []) :=
  Arrives.exec_replied (fun _ => rfl) hserves rfl (by simp) (ownerSlotStatus_badSlot _ h)

theorem exec_noticeRead (k : NoticeKind) :
    exec (.noticeRead n tag [k.number]) s = .next (s.replied n tag 0x42 .ok (s.noticeResults n k)) := by
  have hanswer := ownerNoticeRead_number (s.counted n) n k
  rw [s.counted_noticeResults n k] at hanswer
  exact Arrives.exec_replied (fun _ => rfl) hserves rfl (by simp) hanswer

theorem exec_noticeRead_badValue {b : Byte} (h : b.toNat = 0 ∨ 9 ≤ b.toNat) :
    exec (.noticeRead n tag [b]) s = .next (s.replied n tag 0x42 .badValue []) :=
  Arrives.exec_replied (fun _ => rfl) hserves rfl (by simp) (ownerNoticeRead_badValue _ n h)

end

/-! ### The counts of TICKET_SUMMARY -/

/-- How many of the nine counts of TICKET_SUMMARY a ticket in this state stands in (R53). -/
def TicketState.summaryCounts (st : TicketState) : Nat :=
  (Link.all.map fun n => (st.isQueuedOf n).toNat + (st.isIssuedOf n).toNat + (st.isReadyOf n).toNat +
    (st.isDetachedOf n).toNat).sum + (decide (st = .free)).toNat

theorem TicketState.summaryCounts_eq_one (st : TicketState) : st.summaryCounts = 1 := by
  cases st with
  | free => rfl
  | queued r _ _ | issued r _ _ | ready r _ _ | detached r =>
    cases howner : r.owner <;>
      simp [TicketState.summaryCounts, TicketState.isQueuedOf, TicketState.isIssuedOf, TicketState.isReadyOf,
        TicketState.isDetachedOf, Link.all, howner]

/-- Over any list of tickets the nine counts add up to its length, since every ticket stands in one of them. -/
theorem State.sum_countP_eq_length (s : State) (ts : List (Fin 24)) :
    (Link.all.map fun n => ts.countP (fun t => (s.ticket t).st.isQueuedOf n) +
      ts.countP (fun t => (s.ticket t).st.isIssuedOf n) + ts.countP (fun t => (s.ticket t).st.isReadyOf n) +
      ts.countP (fun t => (s.ticket t).st.isDetachedOf n)).sum +
      ts.countP (fun t => decide ((s.ticket t).st = .free)) = ts.length := by
  induction ts with
  | nil => rfl
  | cons t ts ih =>
    have hone := (s.ticket t).st.summaryCounts_eq_one
    simp only [TicketState.summaryCounts, Link.all, List.map_cons, List.map_nil, List.sum_cons, List.sum_nil,
      Bool.toNat, Bool.cond_eq_ite] at hone ih ⊢
    simp only [List.countP_cons, List.length_cons]
    omega

theorem State.sum_countTickets (s : State) :
    (Link.all.map fun n => s.countTickets (·.isQueuedOf n) + s.countTickets (·.isIssuedOf n) +
      s.countTickets (·.isReadyOf n) + s.countTickets (·.isDetachedOf n)).sum +
      s.countTickets (fun st => st = .free) = 24 :=
  (s.sum_countP_eq_length ticketNumbers).trans List.length_finRange

/-- Settles O52: each reading command by the answer of its owner, the counts by the one count each ticket stands in. -/
theorem readsAnswerAndChangeNothing : Obligations.ReadsAnswerAndChangeNothing := by
  refine ⟨fun s n tag hserves => ⟨exec_identify tag hserves, fun i => ?_, fun i => ?_, exec_ticketSummary tag hserves,
    exec_slotStatus tag hserves, fun k => ?_, fun b => exec_slotStatus_badSlot tag hserves,
    fun b => exec_noticeRead_badValue tag hserves⟩, State.sum_countTickets⟩
  · refine (exec_windowRead tag hserves i false).trans ?_
    cases s.active[i] <;> rfl
  · refine (exec_windowRead tag hserves i true).trans ?_
    cases s.staging[i] <;> rfl
  · refine (exec_noticeRead tag hserves k).trans ?_
    unfold State.noticeResults
    generalize s.kind k = r
    obtain ⟨latch, sent⟩ := r
    cases latch <;> rfl

/-! ### The counters of a group -/

/-- A group operand that names no group is refused, by the check of R175 that it fails. -/
theorem groupOf_error {ty num : Byte} {st : Status}
    (h : (st = Status.badValue ∧ (3 ≤ ty.toNat ∨ (ty = 0 ∧ 2 ≤ num.toNat) ∨ (ty = 2 ∧ num ≠ 0))) ∨
      (st = .badSlot ∧ ty = 1 ∧ 16 ≤ num.toNat)) : groupOf ty num = .error st := by
  rcases h with ⟨rfl, hty | ⟨rfl, hnum⟩ | ⟨rfl, hnum⟩⟩ | ⟨rfl, rfl, hnum⟩
  · have hne (b : Byte) (hb : b.toNat < 3) : ty ≠ b := fun e => by rw [e] at hty; omega
    rw [groupOf, if_neg (hne 0 (by decide)), if_neg (hne 1 (by decide)), if_neg (hne 2 (by decide))]
  · simp only [groupOf, if_true, linkOf_none num hnum]
  · have hgate : groupOf 2 num = if num = 0 then .ok .gate else .error .badValue := rfl
    rw [hgate, if_neg hnum]
  · simp [groupOf, slotOf_none num hnum]

theorem ownerCountersRead_group (s : State) {ty num : Byte} {g : CounterGroup} (h : groupOf ty num = .ok g) :
    ownerCountersRead [ty, num] s = s.accept ((s.counters g).flatMap be32) := by
  simp only [ownerCountersRead, h]

theorem ownerCountersRead_error (s : State) {ty num : Byte} {st : Status} (h : groupOf ty num = .error st) :
    ownerCountersRead [ty, num] s = s.refuse st := by
  simp only [ownerCountersRead, h]

theorem ownerCountersClear_group (s : State) {ty num : Byte} {g : CounterGroup} (h : groupOf ty num = .ok g) :
    ownerCountersClear [ty, num] s = (s.clearCounters g).accept [] := by
  simp only [ownerCountersClear, h]

theorem ownerCountersClear_error (s : State) {ty num : Byte} {st : Status} (h : groupOf ty num = .error st) :
    ownerCountersClear [ty, num] s = s.refuse st := by
  simp only [ownerCountersClear, h]

theorem State.clearCounters_up (s : State) (g : CounterGroup) (n : Link) :
    ((s.clearCounters g).port n).up = (s.port n).up := by
  cases g with
  | link m => cases m <;> cases n <;> rfl
  | slot i => rfl
  | gate => rfl

/-- The counters of a link are 0 once they are cleared (R176). -/
theorem State.clearCounters_link_counters (s : State) (m : Link) :
    (s.clearCounters (.link m)).counters (.link m) = [0, 0, 0, 0, 0, 0, 0] := by
  cases m <;> rfl

theorem State.sent_counters (s : State) (n : Link) (fs : List OutFrame) (g : CounterGroup) :
    (s.sent n fs).counters g = s.counters g := by
  cases g with
  | link m => cases n <;> cases m <;> rfl
  | slot i => rfl
  | gate => rfl

/-- Of the counters, the taking of a frame writes frames taken alone (R187). -/
theorem State.counted_counters_link (s : State) (n m : Link) :
    (s.counted n).counters (.link m) = [((s.counted n).port m).framesTaken, (s.port m).shapeDrops,
      (s.port m).downDrops, (s.port m).overruns, (s.adm.get m).busy, (s.adm.get m).accessFaults, s.flushed.get m] := by
  cases n <;> cases m <;> rfl

/-- Clearing the counters of a link (R176) and replying to the frame write different fields of its port. -/
theorem State.clearCounters_link_sent (s : State) (n m : Link) (fs : List OutFrame) :
    ((s.counted n).clearCounters (.link m)).sent n fs =
      { s.answered n fs with
        ports := (s.answered n fs).ports.set m
          { (s.answered n fs).port m with framesTaken := 0, shapeDrops := 0, downDrops := 0, overruns := 0 }
        adm := s.adm.set m ⟨0, 0⟩, flushed := s.flushed.set m 0 } := by
  simp only [State.counted, State.clearCounters, State.updPort, State.updAdm, State.updFlushed, State.sent,
    State.answered, State.port]
  cases n <;> cases m <;> rfl

theorem State.clearCounters_slot_sent (s : State) (n : Link) (i : Fin 16) (fs : List OutFrame) :
    ((s.counted n).clearCounters (.slot i)).sent n fs =
      ({ s with slots := s.slots.set i { s.slot i with
          timeouts := 0, rejects := 0, dataErrors := 0, postedLost := 0 } } : State).answered n fs := by
  rw [← State.counted_sent]
  rfl

theorem State.clearCounters_gate_sent (s : State) (n : Link) (fs : List OutFrame) :
    ((s.counted n).clearCounters .gate).sent n fs = ({ s with expired := 0 } : State).answered n fs := by
  rw [← State.counted_sent]
  rfl

section
variable {s : State} {n : Link} (tag : Byte) (hserves : s.serves n) {ty num : Byte}
include hserves

theorem exec_countersRead {g : CounterGroup} (h : groupOf ty num = .ok g) :
    exec (.countersRead n tag [ty, num]) s =
      .next (s.replied n tag 0x50 .ok (((s.counted n).counters g).flatMap be32)) :=
  Arrives.exec_replied (fun _ => rfl) hserves rfl (by simp) (ownerCountersRead_group (s.counted n) h)

theorem exec_countersRead_refused {st : Status} (h : groupOf ty num = .error st) :
    exec (.countersRead n tag [ty, num]) s = .next (s.replied n tag 0x50 st []) :=
  Arrives.exec_replied (fun _ => rfl) hserves rfl (by simp) (ownerCountersRead_error (s.counted n) h)

theorem exec_countersClear (hholds : s.holdsLease n = true) {g : CounterGroup} (h : groupOf ty num = .ok g) :
    exec (.countersClear n tag [ty, num]) s =
      .next (((s.counted n).clearCounters g).sent n [.mgmtReply tag 0x51 .ok []]) :=
  Arrives.exec_sent (fun _ => rfl) hserves rfl (fun _ => hholds) (ownerCountersClear_group (s.counted n) h)
    (by rw [State.clearCounters_up, State.counted_up]; exact hserves.2)

theorem exec_countersClear_refused (hholds : s.holdsLease n = true) {st : Status} (h : groupOf ty num = .error st) :
    exec (.countersClear n tag [ty, num]) s = .next (s.replied n tag 0x51 st []) :=
  Arrives.exec_replied (fun _ => rfl) hserves rfl (fun _ => hholds) (ownerCountersClear_error (s.counted n) h)

end

/-- Settles O53: by the group that the operand names, or by the check that it fails. -/
theorem countersAreReadAndCleared : Obligations.CountersAreReadAndCleared := by
  intro s n tag hserves
  refine ⟨fun m => ?_, fun i => exec_countersRead tag hserves (groupOf_slot i),
    exec_countersRead tag hserves groupOf_gate,
    fun hholds => ⟨fun m => ⟨_, exec_countersClear tag hserves hholds (groupOf_link m), rfl, ?_,
      s.clearCounters_link_sent n m _⟩, fun i => ?_, ?_⟩,
    fun ty num st h => ⟨exec_countersRead_refused tag hserves (groupOf_error h),
      fun hholds => exec_countersClear_refused tag hserves hholds (groupOf_error h)⟩⟩
  · refine (exec_countersRead tag hserves (groupOf_link m)).trans ?_
    rw [State.counted_counters_link]
    simp
  · rw [State.sent_counters, State.clearCounters_link_counters]
  · rw [exec_countersClear tag hserves hholds (groupOf_slot i), State.clearCounters_slot_sent]
    rfl
  · rw [exec_countersClear tag hserves hholds groupOf_gate, State.clearCounters_gate_sent]
    rfl

/-! ### The lease at its owners -/

theorem ownerLeaseTake_zero (s : State) (n : Link) : ownerLeaseTake n [0] s = s.refuse .badValue := rfl

section
variable {s : State} {n : Link} {d : Byte} (hd : d ≠ 0)
include hd

/-- A FREE lease is taken (R164). -/
theorem ownerLeaseTake_free (h : s.lease = none) :
    ownerLeaseTake n [d] s = ((s.hold n d).raise (.leaseChange .taken n d)).accept [n.num, d] := by
  simp only [ownerLeaseTake, if_neg hd, h]

/-- The holder takes its lease anew (R164). -/
theorem ownerLeaseTake_holder {l : Lease} (h : s.lease = some l) (hl : l.holder = n) :
    ownerLeaseTake n [d] s = (s.hold n d).accept [n.num, d] := by
  simp only [ownerLeaseTake, if_neg hd, h, if_pos hl]

/-- The other link is refused with the holder and the time left (R164). -/
theorem ownerLeaseTake_held {l : Lease} (h : s.lease = some l) (hl : l.holder ≠ n) :
    ownerLeaseTake n [d] s = ⟨.leaseHeld, [l.holder.num, byte (s.timeLeft l.expiry)], s⟩ := by
  simp only [ownerLeaseTake, if_neg hd, h, if_neg hl]

end

theorem ownerLeaseRenew_held {s : State} {l : Lease} (h : s.lease = some l) :
    ownerLeaseRenew [] s = (s.hold l.holder l.duration).accept [l.duration] := by
  simp only [ownerLeaseRenew, h]

theorem ownerLeaseDrop_held {s : State} {l : Lease} (h : s.lease = some l) :
    ownerLeaseDrop [] s = (s.loseLease l .dropped).accept [] := by
  simp only [ownerLeaseDrop, h]

/-- The time left of a lease that runs out within 25.5 s is the least number of units of 100 ms that covers it (R164). -/
theorem State.timeLeft_bounds (s : State) {e : Nat} (hnow : s.now < e) (hfar : e ≤ s.now + 25500000) :
    1 ≤ s.timeLeft e ∧ s.timeLeft e ≤ 255 ∧ (s.timeLeft e - 1) * 100000 < e - s.now ∧
      e - s.now ≤ s.timeLeft e * 100000 := by
  have hleft : s.timeLeft e = (e - s.now + 99999) / 100000 := by
    simp only [State.timeLeft, Config.leaseUnit]
    omega
  rw [hleft]
  omega

theorem State.holdsLease_of_holder {s : State} {l : Lease} {n : Link} (h : s.lease = some l) (hl : l.holder = n) :
    s.holdsLease n = true := by
  simp only [State.holdsLease, h, hl, decide_true]

/-! ### The lease commands -/

section
variable {s : State} {n : Link} (tag : Byte) (hserves : s.serves n) {d : Byte} {l : Lease}
include hserves

theorem exec_leaseTake_zero : exec (.leaseTake n tag [0]) s = .next (s.replied n tag 0x02 .badValue []) :=
  Arrives.exec_replied (fun _ => rfl) hserves rfl (by simp) (ownerLeaseTake_zero _ n)

theorem exec_leaseTake_free (hd : d ≠ 0) (h : s.lease = none) :
    exec (.leaseTake n tag [d]) s = .next
      (({ s.counted n with lease := some ⟨n, d, s.now + d.toNat * 100000⟩ }.raise
        (.leaseChange .taken n d)).sent n [.mgmtReply tag 0x02 .ok [n.num, d]]) :=
  Arrives.exec_sent (fun _ => rfl) hserves rfl (by simp) (ownerLeaseTake_free (s := s.counted n) hd h)
    (by rw [State.raise_up]; exact (s.counted_up n n).trans hserves.2)

theorem exec_leaseTake_holder (hd : d ≠ 0) (h : s.lease = some l) (hl : l.holder = n) :
    exec (.leaseTake n tag [d]) s = .next
      ({ s with lease := some ⟨n, d, s.now + d.toNat * 100000⟩ }.replied n tag 0x02 .ok [n.num, d]) := by
  rw [State.replied, ← State.counted_sent]
  exact Arrives.exec_sent (fun _ => rfl) hserves rfl (by simp) (ownerLeaseTake_holder (s := s.counted n) hd h hl)
    ((s.counted_up n n).trans hserves.2)

theorem exec_leaseTake_held (hd : d ≠ 0) (h : s.lease = some l) (hl : l.holder ≠ n) :
    exec (.leaseTake n tag [d]) s = .next
      (s.replied n tag 0x02 .leaseHeld [l.holder.num, byte (s.timeLeft l.expiry)]) :=
  Arrives.exec_replied (fun _ => rfl) hserves rfl (by simp) (ownerLeaseTake_held (s := s.counted n) hd h hl)

theorem exec_leaseRenew (h : s.lease = some l) (hl : l.holder = n) :
    exec (.leaseRenew n tag []) s = .next
      ({ s with lease := some ⟨n, l.duration, s.now + l.duration.toNat * 100000⟩ }.replied n tag 0x03 .ok
        [l.duration]) := by
  have hholds := State.holdsLease_of_holder h hl
  subst hl
  rw [State.replied, ← State.counted_sent]
  exact Arrives.exec_sent (fun _ => rfl) hserves rfl (fun _ => hholds)
    (ownerLeaseRenew_held (s := s.counted l.holder) h) ((s.counted_up _ _).trans hserves.2)

theorem exec_leaseDrop (h : s.lease = some l) (hl : l.holder = n) :
    exec (.leaseDrop n tag []) s = .next
      (({ s.counted n with lease := none, staging := .replicate 32 .none }.raise
        (.leaseChange .dropped n l.duration)).sent n [.mgmtReply tag 0x04 .ok []]) := by
  have hholds := State.holdsLease_of_holder h hl
  subst hl
  exact Arrives.exec_sent (fun _ => rfl) hserves rfl (fun _ => hholds)
    (ownerLeaseDrop_held (s := s.counted l.holder) h)
    (by rw [State.raise_up]; exact (s.counted_up _ _).trans hserves.2)

end

section
variable {s : State} {l : Lease} (hr : s.resetPin = false) (h : s.lease = some l)
include hr h

theorem exec_leaseExpiry_held :
    exec .leaseExpiry s = .next (s.atTimerEnd l.expiry (·.loseLease l .expired)) := by
  have hev : exec .leaseExpiry s = .next (takeLeaseExpiry s) := rfl
  rw [hev, takeLeaseExpiry, State.unlessReset_next _ _ hr]
  simp only [h]

/-- The lease runs out where no other running timer ends earlier (R168). -/
theorem exec_leaseExpiry_first (hfirst : ∀ x ∈ s.timerEnds, l.expiry ≤ x) :
    exec .leaseExpiry s = .next ((s.toward l.expiry).loseLease l .expired) := by
  rw [exec_leaseExpiry_held hr h, s.atTimerEnd_first _ _ hfirst]

/-- The lease still runs while another running timer ends earlier (log 4). -/
theorem exec_leaseExpiry_later (hlater : ∃ x ∈ s.timerEnds, x < l.expiry) : exec .leaseExpiry s = .next s := by
  rw [exec_leaseExpiry_held hr h, s.atTimerEnd_later _ _ hlater]

end

/-- Settles O54: LEASE_TAKE by the state of the lease, the others by their effect on the lease that is held. -/
theorem leaseIsTakenRenewedAndLost : Obligations.LeaseIsTakenRenewedAndLost := by
  refine ⟨fun s n tag d hserves => ⟨?_, exec_leaseTake_free tag hserves, fun l => exec_leaseTake_holder tag hserves,
    fun l hd h hl hnow hfar => ?_⟩, fun s n tag l h => ⟨fun hserves => exec_leaseRenew tag hserves h,
    fun hserves => exec_leaseDrop tag hserves h, fun hr hfirst => ⟨_, exec_leaseExpiry_first hr h hfirst⟩,
    fun hr => exec_leaseExpiry_later hr h⟩⟩
  · rintro rfl
    exact exec_leaseTake_zero tag hserves
  · obtain ⟨hmin, hmax, hbelow, habove⟩ := s.timeLeft_bounds hnow hfar
    exact ⟨_, hmin, hmax, hbelow, habove, exec_leaseTake_held tag hserves hd h hl⟩

end Sys2Proof.Machine

/-! PROOF. The step on an empty queue (log 5): the event that comes next is an open one, and a waiting frame is taken as
its command. The second turns on one fact: no command that a frame is puts a frame to a receiver, or takes one from it,
when it is taken (R185). -/

namespace Sys2Proof.Machine

/-! ### The event that comes next -/

theorem State.openEvents_ne_nil (s : State) : s.openEvents ≠ [] := by
  unfold State.openEvents
  split
  · exact List.cons_ne_nil _ _
  · split
    · exact List.cons_ne_nil _ _
    · next hdue => simp [hdue]

theorem State.nextEvent_mem (s : State) : s.nextEvent ∈ s.openEvents := by
  unfold State.nextEvent
  split
  · next e he => rw [he]; exact List.mem_singleton_self e
  · have hpos : 0 < s.openEvents.length := List.length_pos_iff.2 s.openEvents_ne_nil
    have hlt := Nat.mod_lt (Config.eventChoice s.free) hpos
    rw [List.getD_eq_getElem?_getD, List.getElem?_eq_getElem hlt, Option.getD_some]
    exact List.getElem_mem hlt

theorem step_idle {s : State} (h : s.pending = []) : step s = s.nextEvent.run { s with free := s.free + 1 } := by
  simp only [step, h, State.idleStep]

/-- Time passes while RESET is asserted, or while no timer is due (log 5). -/
theorem State.time_mem_openEvents {s : State} (h : GateEvent.time ∈ s.openEvents) :
    s.resetPin = true ∨ s.dueEvents = [] := by
  cases hr : s.resetPin with
  | true => exact .inl rfl
  | false =>
    by_cases hdue : s.dueEvents = []
    · exact .inr hdue
    · simp [State.openEvents, hr, hdue] at h

theorem Link.mem_all (n : Link) : n ∈ Link.all := by cases n <;> decide

theorem State.canTakeWaiting_iff (s : State) (n : Link) :
    s.canTakeWaiting n = true ↔
      s.losPin.get n = false ∧ (s.port n).outbound.length < 32 ∧ (s.port n).waiting ≠ [] := by
  simp only [State.canTakeWaiting, Bool.and_eq_true, Bool.not_eq_true', decide_eq_true_eq, ne_eq, and_assoc,
    List.isEmpty_eq_false_iff]
  exact Iff.rfl

/-- When the oldest waiting frame of a link can be taken (R185). -/
theorem State.takeWaiting_mem_openEvents (s : State) (n : Link) :
    GateEvent.takeWaiting n ∈ s.openEvents ↔
      s.resetPin = false ∧ s.losPin.get n = false ∧ (s.port n).outbound.length < 32 ∧ (s.port n).waiting ≠ [] := by
  rw [← s.canTakeWaiting_iff n]
  cases hr : s.resetPin with
  | true => simp [State.openEvents, hr]
  | false =>
    by_cases hdue : s.dueEvents = [] <;> simp [State.openEvents, hr, hdue, Link.mem_all]

/-! ### Shared operations that leave the waiting frames -/

/-- The waiting frames of both links. -/
def State.waits (s : State) : PerLink (List RawFrame) := ⟨(s.port .l0).waiting, (s.port .l1).waiting⟩

theorem State.waits_get (s : State) (n : Link) : s.waits.get n = (s.port n).waiting := by cases n <;> rfl

theorem State.updPort_waits (s : State) (n : Link) {f : Port → Port} (hf : ∀ p, (f p).waiting = p.waiting) :
    (s.updPort n f).waits = s.waits := by
  cases n with
  | l0 => exact congrArg (PerLink.mk · _) (hf _)
  | l1 => exact congrArg (PerLink.mk _ ·) (hf _)

theorem Port.form_waiting (p : Port) (f : OutFrame) : (p.form f).waiting = p.waiting := by
  unfold Port.form
  split <;> rfl

theorem Port.report_waiting (p : Port) (count : Nat) : (p.report count).waiting = p.waiting := by
  unfold Port.report
  split
  · exact p.form_waiting _
  · rfl

theorem State.counted_waits (s : State) (n : Link) : (s.counted n).waits = s.waits :=
  s.updPort_waits n (f := fun p => { p with framesTaken := rise p.framesTaken }) fun _ => rfl

theorem State.form_waits (s : State) (n : Link) (f : OutFrame) : (s.form n f).waits = s.waits :=
  s.updPort_waits n (·.form_waiting f)

theorem State.report_waits (s : State) (n : Link) (count : Nat) : (s.report n count).waits = s.waits :=
  s.updPort_waits n (·.report_waiting count)

theorem State.raise_waits (s : State) (d : Detail) : (s.raise d).waits = s.waits :=
  State.raise_keeps State.waits State.form_waits (fun _ _ => rfl) s d

theorem State.emitAll_waits (s : State) (n : Link) : (s.emitAll n).waits = s.waits :=
  State.emitAll_keeps State.waits State.form_waits (fun _ _ => rfl) s n

theorem State.changeSlot_waits (s : State) (i : Fin 16) (r : Slot) (c : ChangeCause) :
    (s.changeSlot i r c).waits = s.waits :=
  State.changeSlot_keeps State.waits (fun _ _ => rfl) State.form_waits (fun _ _ => rfl) s i r c

theorem State.loseLease_waits (s : State) (l : Lease) (e : LeaseEvent) : (s.loseLease l e).waits = s.waits :=
  State.loseLease_keeps State.waits (fun _ _ => rfl) (fun _ _ => rfl) State.form_waits (fun _ _ => rfl) s l e

theorem State.dropFrame_waits (s : State) (n : Link) (why : DropReason) : (s.dropFrame n why).waits = s.waits := by
  rw [State.dropFrame, State.raise_waits]
  exact s.updPort_waits n fun _ => rfl

theorem State.ticketedRequest_waits (s : State) (n : Link) (tag : Byte) (op : TicketOp) (a : UpAddr) (len : Nat)
    (data : List Byte) : (s.ticketedRequest n tag op a len data).waits = s.waits :=
  State.ticketedRequest_keeps State.waits (fun _ _ => rfl) (fun _ _ => rfl) (fun _ _ => rfl) (fun _ _ => rfl)
    State.form_waits s n tag op a len data

theorem State.creditedWrite_waits (s : State) (n : Link) (a : UpAddr) (len : Nat) (data : List Byte) :
    (s.creditedWrite n a len data).waits = s.waits := by
  unfold State.creditedWrite
  split
  · rw [State.creditOverrun, State.raise_waits]
    exact s.updPort_waits n fun _ => rfl
  · rw [State.postedRequest_keeps State.waits (fun _ _ => rfl) (fun _ _ => rfl) (fun _ _ => rfl) State.form_waits
      State.report_waits]
    exact s.updPort_waits n fun _ => rfl

theorem State.claimTicket_waits (s : State) (n : Link) (tag : Byte) (t : Fin 24) :
    (s.claimTicket n tag t).waits = s.waits :=
  State.claimTicket_keeps State.waits State.form_waits (fun _ _ => rfl) s n tag t

theorem State.cancelTicket_waits (s : State) (n : Link) (tag : Byte) (t : Fin 24) :
    (s.cancelTicket n tag t).waits = s.waits :=
  State.cancelTicket_keeps State.waits State.form_waits (fun _ _ => rfl) (fun _ _ => rfl) s n tag t

theorem State.linkReset_waits (s : State) (n : Link) : (s.linkReset n).waits = s.waits := by
  have hdiscard (u : State) : (u.updPort n Port.discardOutbound).waits = u.waits := u.updPort_waits n fun _ => rfl
  have henables (u : State) : (u.updPort n Port.clearEnables).waits = u.waits := u.updPort_waits n fun _ => rfl
  have hdown (u : State) : (u.updPort n Port.takeDown).waits = u.waits := u.updPort_waits n fun _ => rfl
  have hsent (u : State) : (u.clearSent n).waits = u.waits := rfl
  rw [State.linkReset, hdown,
    State.releaseLease_keeps State.waits (fun _ _ => rfl) (fun _ _ => rfl) State.form_waits (fun _ _ => rfl),
    State.resetTickets_keeps State.waits (fun _ _ => rfl) (fun _ _ => rfl), hsent, henables, hdiscard]

theorem State.bringUp_waits (s : State) (n : Link) : (s.bringUp n).waits = s.waits := by
  rw [State.bringUp, State.emitAll_waits]
  exact s.updPort_waits n fun _ => rfl

theorem State.applyCommit_waits (s : State) : s.applyCommit.waits = s.waits := by
  simp only [State.waits, State.applyCommit_port]

theorem State.revoke_waits (s : State) : s.revoke.waits = s.waits :=
  State.revoke_keeps State.waits State.form_waits State.report_waits (fun _ _ => rfl) (fun _ _ => rfl)
    (fun _ _ => rfl) s

theorem State.fence_waits (s : State) (i : Fin 16) : (s.fence i).waits = s.waits :=
  State.fence_keeps State.waits (fun _ _ => rfl) (fun _ _ => rfl) State.form_waits (fun _ _ => rfl) s i

theorem State.gateReset_waits (s : State) : s.gateReset.waits = s.waits :=
  State.gateReset_keeps State.waits State.form_waits State.report_waits (fun _ _ => rfl) (fun _ _ => rfl)
    (fun _ _ => rfl) (fun _ _ => rfl) (fun _ _ => rfl) (fun _ _ => rfl) (fun _ _ => rfl) s

theorem State.clearCounters_waits (s : State) (g : CounterGroup) : (s.clearCounters g).waits = s.waits := by
  cases g with
  | link m => cases m <;> rfl
  | slot i => rfl
  | gate => rfl

/-- The dispatch of a frame leaves the waiting frames where its owner does. -/
theorem State.dispatch_waits (s : State) (n : Link) {act : State → State} (hact : ∀ u : State, (act u).waits = u.waits) :
    (s.dispatch n act).waits = s.waits :=
  State.dispatch_keeps (·.waits = s.waits) s n act (s.updPort_waits n fun _ => rfl)
    ((hact _).trans (s.counted_waits n))

/-! ### Owners of management commands that leave the waiting frames -/

/-- The owner's part of a management command leaves the waiting frames. -/
def LeavesWaiting (owner : List Byte → State → MgmtAnswer) : Prop := ∀ ops s, (owner ops s).state.waits = s.waits

/-- The owners that write no port: they refuse, or answer with another part of the state written or none. -/
theorem leavesWaiting_of_no_port (n : Link) :
    LeavesWaiting ownerLeaseRenew ∧ LeavesWaiting ownerCountersRead ∧ LeavesWaiting ownerWindowStage ∧
      LeavesWaiting ownerWindowUnstage ∧ LeavesWaiting ownerWindowLock ∧ LeavesWaiting ownerWindowRead ∧
      LeavesWaiting ownerSetQuota ∧ LeavesWaiting ownerSetDiscard ∧ LeavesWaiting ownerSetBpTimeout ∧
      LeavesWaiting ownerSetFaultLimit ∧ LeavesWaiting ownerSlotStatus ∧ LeavesWaiting ownerNoticeAck ∧
      LeavesWaiting (ownerNoticeRead n) := by
  and_intros <;> intro ops s
  · unfold ownerLeaseRenew; split <;> rfl
  all_goals
    simp only [ownerCountersRead, ownerWindowStage, ownerWindowUnstage, ownerWindowLock, ownerWindowRead,
      ownerSetQuota, ownerSetDiscard, ownerSetBpTimeout, ownerSetFaultLimit, ownerSlotStatus, ownerNoticeAck,
      ownerNoticeRead]
    repeat' split
    all_goals rfl

theorem ownerIdentify_leavesWaiting (n : Link) : LeavesWaiting (ownerIdentify n) := fun _ _ => rfl

theorem ownerTicketSummary_leavesWaiting : LeavesWaiting ownerTicketSummary := fun _ _ => rfl

theorem ownerLeaseTake_leavesWaiting (n : Link) : LeavesWaiting (ownerLeaseTake n) := by
  intro ops s
  unfold ownerLeaseTake
  split
  · split
    · rfl
    · split
      · exact State.raise_waits _ _
      · split <;> rfl
  · rfl

theorem ownerLeaseDrop_leavesWaiting : LeavesWaiting ownerLeaseDrop := by
  intro ops s
  unfold ownerLeaseDrop
  split
  · exact s.loseLease_waits _ _
  · rfl

theorem ownerCountersClear_leavesWaiting : LeavesWaiting ownerCountersClear := by
  intro ops s
  unfold ownerCountersClear
  split
  · split
    · exact s.clearCounters_waits _
    · rfl
  · rfl

theorem ownerGateReset_leavesWaiting : LeavesWaiting ownerGateReset := fun _ s => s.gateReset_waits

theorem ownerWindowCommit_leavesWaiting : LeavesWaiting ownerWindowCommit := by
  intro ops s
  unfold ownerWindowCommit
  split
  · split
    · rfl
    · split
      · rfl
      · split
        · rfl
        · rw [State.accept_state]
          split
          · rw [State.revoke_waits, State.applyCommit_waits]
          · exact s.applyCommit_waits
  · rfl

theorem ownerSlotProbe_leavesWaiting : LeavesWaiting ownerSlotProbe := by
  intro ops s
  unfold ownerSlotProbe
  split
  · split
    · rfl
    · split
      · rfl
      · exact State.changeSlot_waits _ _ _ _
  · rfl

theorem ownerSlotFence_leavesWaiting : LeavesWaiting ownerSlotFence := by
  intro ops s
  unfold ownerSlotFence
  split
  · split
    · rfl
    · exact s.fence_waits _
  · rfl

theorem ownerNoticeEnable_leavesWaiting (n : Link) : LeavesWaiting (ownerNoticeEnable n) := by
  intro ops s
  unfold ownerNoticeEnable
  split
  · rw [State.accept_state, State.emitAll_waits]
    exact s.updPort_waits n fun _ => rfl
  · rfl

/-! ### Every command that a frame is leaves the waiting frames when it is taken -/

/-- The command is the arrival of its frame, whose taking leaves the waiting frames. -/
def TakenApart (c : Instr) (n : Link) : Prop :=
  ∃ take, Arrives c n (encodeFrame c) take ∧ ∀ s, (take s).waits = s.waits

theorem Arrives.takenApart {c : Instr} {n : Link} {tag code : Byte} {count : Nat} {lease : Bool} {ops : List Byte}
    {owner : List Byte → State → MgmtAnswer}
    (harr : Arrives c n (encodeFrame c) (·.manage n tag code count lease ops owner)) (h : LeavesWaiting owner) :
    TakenApart c n := by
  refine ⟨_, harr, fun s => s.dispatch_waits n fun u => ?_⟩
  exact State.checked_keeps (·.waits = u.waits) u n tag code count lease ops owner
    (fun v m f hv => (v.form_waits m f).trans hv) rfl fun _ _ => h ops u

/-- One code of the command table: its owner, and the commands of the other codes. -/
theorem takenApart_ite {p : Prop} [Decidable p] {c rest : Instr} {n : Link} {tag code : Byte} {count : Nat}
    {lease : Bool} {ops : List Byte} {owner : List Byte → State → MgmtAnswer}
    (harr : Arrives c n (encodeFrame c) (·.manage n tag code count lease ops owner)) (h : LeavesWaiting owner)
    (hrest : TakenApart rest n) : TakenApart (if p then c else rest) n := by
  split
  · exact harr.takenApart h
  · exact hrest

theorem takenApart_mgmtInstr (n : Link) (t code : Byte) (ops : List Byte) :
    TakenApart (mgmtInstr n t code ops) n := by
  obtain ⟨hrenew, hread, hstage, hunstage, hlock, hwindow, hquota, hdiscard, htimeout, hlimit, hstatus, hack,
    hnotice⟩ := leavesWaiting_of_no_port n
  unfold mgmtInstr
  refine takenApart_ite (fun _ => rfl) (ownerIdentify_leavesWaiting n) ?_
  refine takenApart_ite (fun _ => rfl) (ownerLeaseTake_leavesWaiting n) ?_
  refine takenApart_ite (fun _ => rfl) hrenew ?_
  refine takenApart_ite (fun _ => rfl) ownerLeaseDrop_leavesWaiting ?_
  refine takenApart_ite (fun _ => rfl) hstage ?_
  -- WINDOW_UNSTAGE is told apart by its clear flag.
  refine iteInduction (motive := (TakenApart · n)) (fun _ => ?_) fun _ => ?_
  · exact takenApart_ite (fun _ => rfl) hunstage (Arrives.takenApart (fun _ => rfl) hunstage)
  refine takenApart_ite (fun _ => rfl) ownerWindowCommit_leavesWaiting ?_
  refine takenApart_ite (fun _ => rfl) hlock ?_
  refine takenApart_ite (fun _ => rfl) hwindow ?_
  refine takenApart_ite (fun _ => rfl) hquota ?_
  refine takenApart_ite (fun _ => rfl) hdiscard ?_
  refine takenApart_ite (fun _ => rfl) ownerTicketSummary_leavesWaiting ?_
  refine takenApart_ite (fun _ => rfl) htimeout ?_
  refine takenApart_ite (fun _ => rfl) ownerSlotProbe_leavesWaiting ?_
  refine takenApart_ite (fun _ => rfl) ownerSlotFence_leavesWaiting ?_
  refine takenApart_ite (fun _ => rfl) hlimit ?_
  refine takenApart_ite (fun _ => rfl) hstatus ?_
  refine takenApart_ite (fun _ => rfl) (ownerNoticeEnable_leavesWaiting n) ?_
  refine takenApart_ite (fun _ => rfl) hack ?_
  refine takenApart_ite (fun _ => rfl) hnotice ?_
  refine takenApart_ite (fun _ => rfl) hread ?_
  refine takenApart_ite (fun _ => rfl) ownerCountersClear_leavesWaiting ?_
  refine takenApart_ite (fun _ => rfl) ownerGateReset_leavesWaiting ?_
  exact ⟨_, fun _ => rfl, fun s => s.dispatch_waits n fun u => u.form_waits n _⟩

theorem takeWrite_waits (n : Link) (a : UpAddr) (len : Byte) (data : List Byte) (s : State) :
    (takeWrite n a len data s).waits = s.waits := by
  unfold takeWrite
  split
  · exact s.dispatch_waits n fun u => u.creditedWrite_waits n a _ data
  · exact s.dropFrame_waits n _

theorem takeWriteConfirmed_waits (n : Link) (tag : Byte) (a : UpAddr) (len : Byte) (data : List Byte) (s : State) :
    (takeWriteConfirmed n tag a len data s).waits = s.waits := by
  unfold takeWriteConfirmed
  split
  · exact s.dispatch_waits n fun u => u.ticketedRequest_waits n tag _ a _ data
  · exact s.dropFrame_waits n _

theorem takeClaim_waits (n : Link) (tag number gen : Byte) (s : State) :
    (takeClaim n tag number gen s).waits = s.waits := by
  refine s.dispatch_waits n fun u => ?_
  split
  · exact u.claimTicket_waits n tag _
  · exact u.form_waits n _

theorem takeCancel_waits (n : Link) (tag number gen : Byte) (s : State) :
    (takeCancel n tag number gen s).waits = s.waits := by
  refine s.dispatch_waits n fun u => ?_
  split
  · exact u.cancelTicket_waits n tag _
  · exact u.form_waits n _

theorem takeHello_waits (n : Link) (s : State) : (takeHello n s).waits = s.waits := by
  unfold takeHello
  split
  · rw [State.bringUp_waits, State.linkReset_waits]
    exact s.counted_waits n
  · rw [State.bringUp_waits]
    exact s.counted_waits n

theorem takeFrameDrop_waits (n : Link) (f : RawFrame) (s : State) : (takeFrameDrop n f s).waits = s.waits := by
  unfold takeFrameDrop
  split
  · exact s.dropFrame_waits n _
  · rfl

theorem Carries.takenApart {n : Link} {kind : Byte} {body : List Byte} {c : Instr} (h : Carries n kind body c) :
    TakenApart c n := by
  cases h with
  | hello => exact ⟨_, fun _ => rfl, takeHello_waits n⟩
  | read t a3 a2 a1 a0 l =>
    exact ⟨takeRead n t (ofBe32 a3 a2 a1 a0) l, fun _ => rfl, fun s =>
      s.dispatch_waits n fun u => u.ticketedRequest_waits n t .read _ _ []⟩
  | write a3 a2 a1 a0 l d _ => exact ⟨_, fun _ => rfl, takeWrite_waits n _ l d⟩
  | writeConfirmed t a3 a2 a1 a0 l d _ => exact ⟨_, fun _ => rfl, takeWriteConfirmed_waits n t _ l d⟩
  | claim t num gen => exact ⟨_, fun _ => rfl, takeClaim_waits n t num gen⟩
  | cancel t num gen => exact ⟨_, fun _ => rfl, takeCancel_waits n t num gen⟩
  | mgmt t code ops => exact takenApart_mgmtInstr n t code ops

theorem takenApart_decodeFrame (n : Link) (f : RawFrame) : TakenApart (decodeFrame n f) n := by
  cases h : frameFault f with
  | some why =>
    rw [decodeFrame_of_fault n f why h]
    exact ⟨_, fun _ => rfl, takeFrameDrop_waits n f⟩
  | none => exact (carries_decodeFrame n f h).takenApart

/-! ### The taking of a waiting frame -/

/-- The state in which the receiver of a link hands over its frames: none waits (R185). -/
def State.noneWaiting (s : State) (n : Link) : State :=
  { s with ports := s.ports.set n { s.port n with waiting := [] } }

theorem State.noneWaiting_port (s : State) (n : Link) : (s.noneWaiting n).port n = { s.port n with waiting := [] } :=
  PerLink.get_set_self _ _ _

/-- A link whose waiting frame can be taken withholds nothing once no frame stands before it (R185). -/
theorem State.noneWaiting_takesNow {s : State} {n : Link} (h : GateEvent.takeWaiting n ∈ s.openEvents) :
    (s.noneWaiting n).takesNow n = true := by
  obtain ⟨hr, hl, hroom, _⟩ := (s.takeWaiting_mem_openEvents n).1 h
  have hwait : (s.noneWaiting n).mustWait n = false := by
    simp only [State.mustWait, s.noneWaiting_port, Config.outboundPause, decide_eq_false_iff_not, ne_eq,
      not_true_eq_false, or_false]
    omega
  have hr' : (s.noneWaiting n).resetPin = false := hr
  have hl' : (s.noneWaiting n).losPin.get n = false := hl
  simp only [State.takesNow, hr', hl', hwait, Bool.not_false, Bool.and_self]

/-- The command of a waiting frame is taken, and no frame waits after it (R185, R187). -/
theorem exec_noneWaiting {s : State} {n : Link} (f : RawFrame) (h : GateEvent.takeWaiting n ∈ s.openEvents) :
    ∃ t, exec (decodeFrame n f) (s.noneWaiting n) = .next t ∧ (t.port n).waiting = [] := by
  obtain ⟨take, harr, hwaits⟩ := takenApart_decodeFrame n f
  refine ⟨_, harr.exec_takesNow _ (State.noneWaiting_takesNow h), ?_⟩
  rw [← State.waits_get, hwaits, State.waits_get, s.noneWaiting_port]

/-- The frames behind the one that is taken wait on (R185). -/
theorem State.run_takeWaiting {s t : State} {n : Link} {f : RawFrame} {rest : List RawFrame}
    (hw : (s.port n).waiting = f :: rest) (hexec : exec (decodeFrame n f) (s.noneWaiting n) = .next t)
    (ht : (t.port n).waiting = []) :
    (GateEvent.takeWaiting n).run s =
      .next { t with ports := t.ports.set n { t.port n with waiting := rest } } := by
  have hdef : (s.updPort n fun p => { p with waiting := [] }) = s.noneWaiting n := rfl
  have ht' : (t.ports.get n).waiting = [] := ht
  simp only [GateEvent.run, State.takeWaiting, hw, hdef, hexec]
  simp only [State.updPort, ht', List.append_nil]
  rfl

/-- Settles O2: the event that comes next is an open one, and a waiting frame that can be taken is taken at once on the
state in which no frame stands before it. -/
theorem idleStepRunsAnOpenEvent : Obligations.IdleStepRunsAnOpenEvent := by
  refine ⟨fun s h => ⟨⟨_, s.nextEvent_mem, step_idle h⟩, State.time_mem_openEvents⟩, State.takeWaiting_mem_openEvents,
    fun s n f rest hopen hw => ?_⟩
  obtain ⟨t, hexec, ht⟩ := exec_noneWaiting f hopen
  exact ⟨t, hexec, ht, State.run_takeWaiting hw hexec ht⟩

end Sys2Proof.Machine

/-! PROOF. The statements of 09_rack_link_ports.md: the law of credits under every step, HELLO, and the frames that
leave. Before the law one notion: what it reads of a link, and the law of a state in which some credits are still
due. -/

namespace Sys2Proof.Machine

/-! ### What the law of credits reads of a link -/

/-- The state and the credits of a link's port, and its work queue (R83, R184). -/
structure LinkCredit where
  up : Bool
  granted : Nat
  owed : Nat
  queue : List WorkEntry

/-- What the law of credits reads of a state, for each link. -/
def State.credit (s : State) (n : Link) : LinkCredit :=
  ⟨(s.port n).up, (s.port n).granted, (s.port n).owed, s.queue n⟩

/-- A report at what the law reads of a link (R193). -/
def LinkCredit.report (c : LinkCredit) (count : Nat) : LinkCredit :=
  if c.up then { c with granted := c.granted + (c.owed + count), owed := 0 } else c

/-- The law of credits of a link with `due` credits that are consumed by entries not in its queue and not yet reported:
by a WRITE that has not reached the queue, or by posted entries that have left it (R70, R84, R192 to R194). -/
structure LinkCredit.Balanced (c : LinkCredit) (due : Nat) : Prop where
  posted : c.queue.countP (·.isPosted) + due ≤ 16
  ticketed : c.queue.countP (fun e => !e.isPosted) ≤ 16
  owed : c.owed = 0
  total : c.granted + (if c.up then c.queue.countP (·.isPosted) + due else 0) = if c.up then 16 else 0

/-- A report of all that is due leaves nothing due (R193): on an UP link the credits are granted again, and a DOWN link
has none. -/
theorem LinkCredit.Balanced.report {c : LinkCredit} {due : Nat} (h : c.Balanced due) : (c.report due).Balanced 0 := by
  obtain ⟨up, granted, owed, queue⟩ := c
  obtain ⟨hposted, hticketed, howed, htotal⟩ := h
  have hbound : queue.countP (·.isPosted) ≤ 16 := by dsimp only at hposted; omega
  cases up with
  | true =>
    refine ⟨hbound, hticketed, rfl, ?_⟩
    simp only [if_true] at howed htotal
    simp only [LinkCredit.report, if_true]
    omega
  | false => exact ⟨hbound, hticketed, howed, htotal⟩

/-- A credit that is consumed is due; only an UP link has one (R192). -/
theorem LinkCredit.Balanced.charge {c : LinkCredit} (h : c.Balanced 0) (hgranted : c.granted ≠ 0) :
    ({ c with granted := c.granted - 1 } : LinkCredit).Balanced 1 := by
  obtain ⟨up, granted, owed, queue⟩ := c
  obtain ⟨hposted, hticketed, howed, htotal⟩ := h
  dsimp only at hgranted
  cases up with
  | true =>
    simp only [if_true] at htotal
    refine ⟨?_, hticketed, howed, ?_⟩ <;> simp only [if_true] <;> omega
  | false => exact absurd htotal hgranted

/-- The law of credits of a state in which each link has so many credits due. -/
def State.Owing (s : State) (due : PerLink Nat) : Prop := ∀ n, (s.credit n).Balanced (due.get n)

/-- No credit is due on either link. -/
def noneDue : PerLink Nat := .both 0

theorem noneDue_get (n : Link) : noneDue.get n = 0 := PerLink.get_both 0 n

theorem noneDue_set_zero (n : Link) : noneDue.set n 0 = noneDue := by
  rw [← noneDue_get n, PerLink.set_get]

/-- Law 7 is the law with no credit due. -/
theorem State.creditLaw_iff (s : State) : s.CreditLaw ↔ s.Owing noneDue := by
  refine forall_congr' fun n => ?_
  rw [noneDue_get]
  constructor
  all_goals
    rintro ⟨hposted, hticketed, howed, htotal⟩
    exact ⟨hposted, hticketed, howed, htotal⟩

theorem State.Owing.balanced {s : State} (hs : s.Owing noneDue) (n : Link) : (s.credit n).Balanced 0 :=
  noneDue_get n ▸ hs n

theorem State.Owing.of_credit {s t : State} {due : PerLink Nat} (hs : s.Owing due) (h : t.credit = s.credit) :
    t.Owing due := by
  intro n
  rw [h]
  exact hs n

/-- The law after what it reads of one link has changed. -/
theorem State.Owing.change {s t : State} {due : PerLink Nat} (hs : s.Owing due) (n : Link) (d : Nat)
    (hother : ∀ m, m ≠ n → t.credit m = s.credit m) (hself : (t.credit n).Balanced d) :
    t.Owing (due.set n d) := by
  intro m
  rw [PerLink.get_set]
  split
  · next hm =>
    rw [hm]
    exact hself
  · next hm =>
    rw [hother m hm]
    exact hs m

/-- A change of one link after which as much is due as before. -/
theorem State.Owing.change_same {s t : State} {due : PerLink Nat} (hs : s.Owing due) (n : Link)
    (hother : ∀ m, m ≠ n → t.credit m = s.credit m) (hself : (t.credit n).Balanced (due.get n)) : t.Owing due := by
  have h := hs.change n (due.get n) hother hself
  rwa [PerLink.set_get] at h

/-! ### Updates of a port and of a queue -/

theorem State.updPort_credit (s : State) (n : Link) {f : Port → Port}
    (hf : ∀ p, (f p).up = p.up ∧ (f p).granted = p.granted ∧ (f p).owed = p.owed) :
    (s.updPort n f).credit = s.credit := by
  funext m
  obtain ⟨hup, hgranted, howed⟩ := hf (s.port n)
  have hqueue : (s.updPort n f).queue m = s.queue m := rfl
  simp only [State.credit, State.updPort_port, hqueue]
  split
  · next h => rw [hup, hgranted, howed, h]
  · rfl

theorem State.updPort_credit_other (s : State) {n m : Link} (f : Port → Port) (h : m ≠ n) :
    (s.updPort n f).credit m = s.credit m := by
  have hqueue : (s.updPort n f).queue m = s.queue m := rfl
  simp only [State.credit, State.updPort_port, if_neg h, hqueue]

theorem State.updPort_credit_self (s : State) (n : Link) (f : Port → Port) :
    (s.updPort n f).credit n =
      ⟨(f (s.port n)).up, (f (s.port n)).granted, (f (s.port n)).owed, s.queue n⟩ := by
  have hqueue : (s.updPort n f).queue n = s.queue n := rfl
  simp only [State.credit, State.updPort_port, if_pos, hqueue]

theorem State.setQueue_credit_other (s : State) {n m : Link} (es : List WorkEntry) (h : m ≠ n) :
    (s.setQueue n es).credit m = s.credit m := by
  have hport : (s.setQueue n es).port m = s.port m := rfl
  simp only [State.credit, State.setQueue_queue, if_neg h, hport]

theorem State.setQueue_credit_self (s : State) (n : Link) (es : List WorkEntry) :
    (s.setQueue n es).credit n = { s.credit n with queue := es } := by
  have hport : (s.setQueue n es).port n = s.port n := rfl
  simp only [State.credit, State.setQueue_queue, if_pos, hport]

theorem Port.report_credit (p : Port) (count : Nat) (es : List WorkEntry) :
    (⟨(p.report count).up, (p.report count).granted, (p.report count).owed, es⟩ : LinkCredit) =
      LinkCredit.report ⟨p.up, p.granted, p.owed, es⟩ count := by
  cases h : p.up <;> simp [Port.report, LinkCredit.report, Port.form, h]

theorem State.report_credit_self (s : State) (n : Link) (count : Nat) :
    (s.report n count).credit n = (s.credit n).report count :=
  (s.updPort_credit_self n _).trans ((s.port n).report_credit count _)

/-- A queue changes: every posted entry that leaves it makes a credit due, and one that joins it takes up a credit that
was due. -/
theorem State.Owing.setQueue {s : State} {due : PerLink Nat} (hs : s.Owing due) (n : Link) (es : List WorkEntry)
    (d : Nat) (hposted : es.countP (·.isPosted) + d = (s.queue n).countP (·.isPosted) + due.get n)
    (hticketed : es.countP (fun e => !e.isPosted) ≤ 16) : (s.setQueue n es).Owing (due.set n d) := by
  refine hs.change n d (fun m hm => s.setQueue_credit_other es hm) ?_
  obtain ⟨hbound, _, howed, htotal⟩ := hs n
  rw [s.setQueue_credit_self]
  refine ⟨?_, hticketed, howed, ?_⟩
  · rw [hposted]
    exact hbound
  · rw [hposted]
    exact htotal

/-- A queue changes and holds as many posted entries as before. -/
theorem State.Owing.setQueue_same {s : State} {due : PerLink Nat} (hs : s.Owing due) (n : Link) (es : List WorkEntry)
    (hposted : es.countP (·.isPosted) = (s.queue n).countP (·.isPosted))
    (hticketed : es.countP (fun e => !e.isPosted) ≤ 16) : (s.setQueue n es).Owing due := by
  have h := hs.setQueue n es (due.get n) (by rw [hposted]) hticketed
  rwa [PerLink.set_get] at h

theorem State.Owing.ticketed_le {s : State} {due : PerLink Nat} (hs : s.Owing due) {n : Link} {es : List WorkEntry}
    (h : es.Sublist (s.queue n)) : es.countP (fun e => !e.isPosted) ≤ 16 :=
  Nat.le_trans h.countP_le (hs n).ticketed

/-- A report of all that is due on a link leaves nothing due there (R193). -/
theorem State.Owing.report {s : State} {due : PerLink Nat} (hs : s.Owing due) {n : Link} {count : Nat}
    (h : due.get n = count) : (s.report n count).Owing (due.set n 0) := by
  refine hs.change n 0 (fun m hm => s.updPort_credit_other _ hm) ?_
  rw [s.report_credit_self, ← h]
  exact (hs n).report

/-- A report that is made where its count is not 0 (R96, R100). -/
theorem State.Owing.reportCount {s : State} {due : PerLink Nat} (hs : s.Owing due) {n : Link} {count : Nat}
    (h : due.get n = count) : (s.reportCount n count).Owing (due.set n 0) := by
  unfold State.reportCount
  split
  · next h0 =>
    have hnone : due.set n 0 = due := by rw [← h0, ← h, PerLink.set_get]
    rwa [hnone]
  · exact hs.report h

/-- The posted entry at the head of a queue leaves it, and its credit is reported (R87, R93, R97). -/
theorem State.Owing.leave {s : State} (hs : s.Owing noneDue) {n : Link} {e : PostedEntry} {rest : List WorkEntry}
    (hq : s.queue n = .posted e :: rest) : (s.setQueue n rest).Owing (noneDue.set n 1) := by
  refine hs.setQueue n rest 1 ?_ (hs.ticketed_le (n := n) (by rw [hq]; exact List.sublist_cons_self _ _))
  rw [hq, List.countP_cons_of_pos rfl, noneDue_get]

/-- The report of the one credit that is due. -/
theorem State.Owing.reportOne {s : State} {n : Link} (hs : s.Owing (noneDue.set n 1)) :
    (s.report n 1).Owing noneDue := by
  have h := hs.report (n := n) (PerLink.get_set_self noneDue n 1)
  rwa [PerLink.set_set, noneDue_set_zero] at h

/-- A posted entry whose credit is due joins its queue (R77). -/
theorem State.Owing.join {s : State} {n : Link} (hs : s.Owing (noneDue.set n 1)) (e : PostedEntry) :
    (s.setQueue n (s.queue n ++ [.posted e])).Owing noneDue := by
  have h := hs.setQueue n (s.queue n ++ [.posted e]) 0 ?_ ?_
  · rwa [PerLink.set_set, noneDue_set_zero] at h
  · rw [PerLink.get_set_self]
    exact List.countP_append
  · exact Nat.le_trans (Nat.le_of_eq List.countP_append) (hs n).ticketed

/-- The ticketed entry at the head of a queue leaves it. -/
theorem State.Owing.leave_ticketed {s : State} (hs : s.Owing noneDue) {n : Link} {t : Fin 24} {rest : List WorkEntry}
    (hq : s.queue n = .ticketed t :: rest) : (s.setQueue n rest).Owing noneDue := by
  refine hs.setQueue_same n rest ?_ (hs.ticketed_le (n := n) (by rw [hq]; exact List.sublist_cons_self _ _))
  rw [hq, List.countP_cons_of_neg (by simp [WorkEntry.isPosted])]

/-! ### Shared operations that leave what the law reads -/

theorem Port.form_credits (p : Port) (f : OutFrame) :
    (p.form f).up = p.up ∧ (p.form f).granted = p.granted ∧ (p.form f).owed = p.owed := by
  unfold Port.form
  split <;> exact ⟨rfl, rfl, rfl⟩

theorem State.form_credit (s : State) (n : Link) (f : OutFrame) : (s.form n f).credit = s.credit :=
  s.updPort_credit n (·.form_credits f)

theorem State.counted_credit (s : State) (n : Link) : (s.counted n).credit = s.credit :=
  s.updPort_credit n (f := fun p => { p with framesTaken := rise p.framesTaken }) fun _ => ⟨rfl, rfl, rfl⟩

theorem State.raise_credit (s : State) (d : Detail) : (s.raise d).credit = s.credit :=
  State.raise_keeps State.credit State.form_credit (fun _ _ => rfl) s d

theorem State.emitAll_credit (s : State) (n : Link) : (s.emitAll n).credit = s.credit :=
  State.emitAll_keeps State.credit State.form_credit (fun _ _ => rfl) s n

theorem State.changeSlot_credit (s : State) (i : Fin 16) (r : Slot) (c : ChangeCause) :
    (s.changeSlot i r c).credit = s.credit :=
  State.changeSlot_keeps State.credit (fun _ _ => rfl) State.form_credit (fun _ _ => rfl) s i r c

theorem State.complete_credit (s : State) (t : Fin 24) (x : Result) : (s.complete t x).credit = s.credit :=
  State.complete_keeps State.credit State.form_credit (fun _ _ => rfl) s t x

theorem State.loseLease_credit (s : State) (l : Lease) (e : LeaseEvent) : (s.loseLease l e).credit = s.credit :=
  State.loseLease_keeps State.credit (fun _ _ => rfl) (fun _ _ => rfl) State.form_credit (fun _ _ => rfl) s l e

theorem State.releaseLease_credit (s : State) (n : Link) : (s.releaseLease n).credit = s.credit :=
  State.releaseLease_keeps State.credit (fun _ _ => rfl) (fun _ _ => rfl) State.form_credit (fun _ _ => rfl) s n

theorem State.endFailed_credit (s : State) (op : Operation) (f : Failure) : (s.endFailed op f).credit = s.credit :=
  State.endFailed_keeps State.credit (fun _ _ => rfl) State.form_credit (fun _ _ => rfl) (fun _ _ => rfl)
    (fun _ _ => rfl) (fun _ _ => rfl) s op f

theorem State.takeReadBeat_credit (s : State) (op : Operation) (row : Option ModAddr) (i : Nat) (got : List Byte)
    (lanes : BitVec 32) (parity : BitVec 4) : (s.takeReadBeat op row i got lanes parity).credit = s.credit :=
  State.takeReadBeat_keeps State.credit (fun _ _ => rfl) State.form_credit (fun _ _ => rfl) (fun _ _ => rfl)
    (fun _ _ => rfl) (fun _ _ => rfl) s op row i got lanes parity

theorem State.acceptedReport_credit (s : State) (op : Operation) : (s.acceptedReport op).credit = s.credit :=
  State.acceptedReport_keeps State.credit (fun _ _ => rfl) s op

theorem State.grantProbe_credit (s : State) : s.grantProbe.credit = s.credit :=
  State.grantProbe_keeps State.credit (fun _ _ => rfl) (fun _ _ => rfl) (fun _ _ => rfl) (fun _ _ => rfl) s

theorem State.refuseBusy_credit (s : State) (n : Link) (tag : Byte) (a : UpAddr) (c : BusyCause) :
    (s.refuseBusy n tag a c).credit = s.credit :=
  State.refuseBusy_keeps State.credit (fun _ _ => rfl) State.form_credit (fun _ _ => rfl) s n tag a c

theorem State.claimTicket_credit (s : State) (n : Link) (tag : Byte) (t : Fin 24) :
    (s.claimTicket n tag t).credit = s.credit :=
  State.claimTicket_keeps State.credit State.form_credit (fun _ _ => rfl) s n tag t

theorem State.expireHold_credit (s : State) (t : Fin 24) (r : Request) (st : TicketState) :
    (s.expireHold t r st).credit = s.credit :=
  State.expireHold_keeps State.credit State.form_credit (fun _ _ => rfl) s t r st

theorem State.expireReady_credit (s : State) (t : Fin 24) (r : Request) : (s.expireReady t r).credit = s.credit :=
  State.expireReady_keeps State.credit (fun _ _ => rfl) (fun _ _ => rfl) State.form_credit (fun _ _ => rfl) s t r

theorem State.fence_credit (s : State) (i : Fin 16) : (s.fence i).credit = s.credit :=
  State.fence_keeps State.credit (fun _ _ => rfl) (fun _ _ => rfl) State.form_credit (fun _ _ => rfl) s i

theorem State.flushDirect_credit (s : State) : s.flushDirect.credit = s.credit :=
  State.flushDirect_keeps State.credit State.form_credit (fun _ _ => rfl) s

theorem State.resetProbes_credit (s : State) : s.resetProbes.credit = s.credit :=
  State.resetProbes_keeps State.credit (fun _ _ => rfl) (fun _ _ => rfl) State.form_credit (fun _ _ => rfl) s

theorem State.waitAtReceiver_credit (s : State) (n : Link) (f : RawFrame) :
    (s.waitAtReceiver n f).credit = s.credit := by
  unfold State.waitAtReceiver
  dsimp only
  split
  · exact State.updPort_credit _ n fun _ => ⟨rfl, rfl, rfl⟩
  · rfl

theorem State.dropFrame_credit (s : State) (n : Link) (why : DropReason) :
    (s.dropFrame n why).credit = s.credit := by
  rw [State.dropFrame, State.raise_credit]
  exact s.updPort_credit n fun _ => ⟨rfl, rfl, rfl⟩

theorem State.creditOverrun_credit (s : State) (n : Link) : (s.creditOverrun n).credit = s.credit := by
  rw [State.creditOverrun, State.raise_credit]
  exact s.updPort_credit n fun _ => ⟨rfl, rfl, rfl⟩

theorem State.applyCommit_credit (s : State) : s.applyCommit.credit = s.credit := by
  funext n
  simp only [State.credit, State.applyCommit_port, State.applyCommit_queue]

theorem State.clearCounters_credit (s : State) (g : CounterGroup) : (s.clearCounters g).credit = s.credit := by
  cases g with
  | link n =>
    exact s.updPort_credit n (f := fun p => { p with framesTaken := 0, shapeDrops := 0, downDrops := 0, overruns := 0 })
      fun _ => ⟨rfl, rfl, rfl⟩
  | slot i => rfl
  | gate => rfl

/-! ### Requests at the admission unit -/

/-- A ticketed request joins its queue only below the bound (R70). -/
theorem State.Owing.allocate {s : State} (hs : s.Owing noneDue) (t : Fin 24) (r : Request) (data : List Byte)
    (hold : Option Nat) (hbound : s.ticketedCount r.owner < 16) : (s.allocate t r data hold).Owing noneDue := by
  have hjoined : ((s.setTicketState t (.queued r data (s.startMode r.owner hold))).setQueue r.owner
      (s.queue r.owner ++ [.ticketed t])).Owing noneDue := by
    refine State.Owing.setQueue_same (hs.of_credit rfl) _ _ ?_ ?_
    · exact List.countP_append.trans (Nat.add_zero _)
    · exact Nat.le_trans (Nat.le_of_eq List.countP_append) hbound
  unfold State.allocate
  dsimp only
  split
  · exact hjoined.of_credit (State.form_credit _ _ _)
  · exact hjoined

theorem State.Owing.ticketedRequest {s : State} (hs : s.Owing noneDue) (n : Link) (tag : Byte) (op : TicketOp)
    (a : UpAddr) (len : Nat) (data : List Byte) : (s.ticketedRequest n tag op a len data).Owing noneDue := by
  unfold State.ticketedRequest
  split
  · exact hs.of_credit (s.form_credit _ _)
  · unfold State.admitTicketed
    split
    · exact hs.of_credit (s.refuseBusy_credit _ _ _ _)
    · next hbound =>
      split
      · exact hs.of_credit (s.refuseBusy_credit _ _ _ _)
      · split
        · exact hs.of_credit (s.refuseBusy_credit _ _ _ _)
        · exact hs.allocate _ _ _ _ (Nat.lt_of_not_le hbound)

/-- A WRITE consumes a granted credit, which is due from then on (R192). -/
theorem State.Owing.charge {s : State} (hs : s.Owing noneDue) {n : Link} (h : (s.port n).granted ≠ 0) :
    (s.updPort n fun p => { p with granted := p.granted - 1 }).Owing (noneDue.set n 1) := by
  refine hs.change n 1 (fun m hm => s.updPort_credit_other _ hm) ?_
  rw [s.updPort_credit_self]
  exact (hs.balanced n).charge h

/-- The credit of a WRITE is reported where the admission unit drops it, and its entry takes it up otherwise (R69,
R77). -/
theorem State.Owing.postedRequest {s : State} {n : Link} (hs : s.Owing (noneDue.set n 1)) (a : UpAddr) (len : Nat)
    (data : List Byte) : (s.postedRequest n a len data).Owing noneDue := by
  unfold State.postedRequest
  split
  · exact (hs.of_credit (State.raise_credit (s.updAdm n _) _)).reportOne
  · exact hs.join _

theorem State.Owing.creditedWrite {s : State} (hs : s.Owing noneDue) (n : Link) (a : UpAddr) (len : Nat)
    (data : List Byte) : (s.creditedWrite n a len data).Owing noneDue := by
  unfold State.creditedWrite
  split
  · exact hs.of_credit (s.creditOverrun_credit n)
  · next hgranted => exact (hs.charge hgranted).postedRequest a len data

/-! ### Tickets that leave the queue, head disposal, grant and run -/

theorem countP_posted_filter_ne_ticketed (es : List WorkEntry) (t : Fin 24) :
    (es.filter (· ≠ .ticketed t)).countP (·.isPosted) = es.countP (·.isPosted) := by
  rw [List.countP_filter]
  refine List.countP_congr fun e _ => ?_
  cases e <;> simp [WorkEntry.isPosted]

theorem State.Owing.dropEntry {s : State} (hs : s.Owing noneDue) (n : Link) (t : Fin 24) :
    (s.dropEntry n t).Owing noneDue :=
  hs.setQueue_same n _ (countP_posted_filter_ne_ticketed _ t) (hs.ticketed_le List.filter_sublist)

theorem State.Owing.cancelTicket {s : State} (hs : s.Owing noneDue) (n : Link) (tag : Byte) (t : Fin 24) :
    (s.cancelTicket n tag t).Owing noneDue := by
  have hrefused : (s.answerNoTicket n tag).Owing noneDue := hs.of_credit (s.form_credit _ _)
  unfold State.cancelTicket
  split
  · split
    · have hfreed : ((s.dropEntry n t).freeTicket t).Owing noneDue := (hs.dropEntry n t).of_credit rfl
      exact hfreed.of_credit (State.form_credit _ _ _)
    · exact hrefused
  · split
    · exact hs.of_credit ((State.form_credit _ _ _).trans rfl)
    · exact hrefused
  · split
    · exact hs.of_credit ((State.form_credit _ _ _).trans rfl)
    · exact hrefused
  all_goals exact hrefused

theorem State.Owing.disposeHead {s : State} (hs : s.Owing noneDue) {n : Link} {e : WorkEntry} {rest : List WorkEntry}
    (i : Fin 16) (hq : s.queue n = e :: rest) : (s.disposeHead n e rest i).Owing noneDue := by
  cases e with
  | ticketed t => exact (hs.leave_ticketed hq).of_credit (State.complete_credit _ t _)
  | posted p =>
    exact ((hs.leave hq).of_credit (State.raise_credit ((s.setQueue n rest).updSlot i _) _)).reportOne

theorem State.Owing.grantQueue {s : State} (hs : s.Owing noneDue) (n : Link) : (s.grantQueue n).Owing noneDue := by
  unfold State.grantQueue
  split
  · next hq => exact (hs.leave hq).reportOne.of_credit rfl
  · next hq =>
    split
    · exact (hs.leave_ticketed hq).of_credit rfl
    · exact hs
  · exact hs

theorem State.Owing.grant {s : State} (hs : s.Owing noneDue) (src : Source) : (s.grant src).Owing noneDue := by
  have hmoved : ({ s with pointer := src.next } : State).Owing noneDue := hs.of_credit rfl
  cases src with
  | wq0 => exact hmoved.grantQueue .l0
  | wq1 => exact hmoved.grantQueue .l1
  | prq => exact hmoved.of_credit (State.grantProbe_credit _)

/-- A run continues with the posted head of its link's queue (R92). -/
theorem State.queue_of_continuation {s : State} {n : Link} {cur e : PostedEntry} {row : Option ModAddr}
    {rest : List WorkEntry} (h : s.continuation n cur row = some (e, rest)) : s.queue n = .posted e :: rest := by
  cases row with
  | none => simp [State.continuation] at h
  | some row => exact ((s.continuation_eq_some_iff n cur e row rest).1 h).1

theorem State.Owing.endPosted {s : State} (hs : s.Owing noneDue) (n : Link) (cur : PostedEntry) (row : Option ModAddr) :
    (s.endPosted n cur row).Owing noneDue := by
  unfold State.endPosted
  split
  · next hrun => exact (hs.leave (State.queue_of_continuation hrun)).reportOne.of_credit rfl
  · exact hs.of_credit rfl

theorem State.Owing.acceptWriteBeat {s : State} (hs : s.Owing noneDue) (op : Operation) (row : Option ModAddr)
    (i : Nat) : (s.acceptWriteBeat op row i).Owing noneDue := by
  unfold State.acceptWriteBeat
  split
  · exact hs.of_credit rfl
  · cases op with
    | postedWrite n e => exact hs.endPosted n e row
    | ticketed t r d => exact (hs.of_credit (s.complete_credit t .done)).of_credit rfl
    | probe i => exact hs

theorem State.AnswerOutcome.owing {s t : State} (h : s.AnswerOutcome t) (hs : s.Owing noneDue) : t.Owing noneDue := by
  cases h with
  | ignored => exact hs
  | selectAccepted op row => exact (hs.of_credit (s.acceptedReport_credit op)).of_credit rfl
  | selectWaits op row => exact hs.of_credit rfl
  | fails op f => exact hs.of_credit (s.endFailed_credit op f)
  | timesOut op e => exact hs.of_credit (State.endFailed_credit (s.toward e) op .timeout)
  | writeBeat op row i => exact hs.acceptWriteBeat op row i
  | readBeat op row i got lanes parity => exact hs.of_credit (s.takeReadBeat_credit op row i got lanes parity)

/-! ### The revocation pass and gate reset -/

/-- Whether a posted entry survives the pass depends on the active set alone (R95). -/
theorem State.survives_posted_congr {s t : State} (h : t.active = s.active) (n : Link) (e : PostedEntry) :
    t.survives n (.posted e) = s.survives n (.posted e) := by
  simp only [State.survives, h]

/-- The posted entries of a queue are those that survive the pass and those that it removes (R96). -/
theorem State.countP_survivors (s : State) (n : Link) :
    ((s.queue n).filter fun e => s.survives n e).countP (·.isPosted) + s.revokedPosted n =
      (s.queue n).countP (·.isPosted) := by
  rw [List.countP_eq_countP_filter_add (s.queue n) (·.isPosted) fun e => s.survives n e, Nat.add_left_cancel_iff,
    List.countP_filter]
  rfl

/-- The pass over a queue makes the credits of the posted entries that it removes due. -/
theorem State.Owing.revokeQueue {s : State} {due : PerLink Nat} (hs : s.Owing due) {n : Link} (h : due.get n = 0) :
    (s.revokeQueue n).Owing (due.set n (s.revokedPosted n)) := by
  have hleft := hs.setQueue n ((s.queue n).filter fun e => s.survives n e) (s.revokedPosted n)
    (by rw [s.countP_survivors, h, Nat.add_zero]) (hs.ticketed_le List.filter_sublist)
  exact hleft.of_credit
    (State.revokeEntries_keeps State.credit State.form_credit (fun _ _ => rfl) (fun _ _ => rfl) n _ _)

/-- The pass over WQ0 leaves what the pass over WQ1 will remove (R95). -/
theorem State.revokedPosted_revokeQueue (s : State) :
    (s.revokeQueue .l0).revokedPosted .l1 = s.revokedPosted .l1 := by
  have hactive : (s.revokeQueue .l0).active = s.active :=
    State.revokeQueue_keeps State.active (fun _ _ _ => rfl) (fun _ _ => rfl) (fun _ _ => rfl) (fun _ _ => rfl) s .l0
  have hqueue : (s.revokeQueue .l0).queue .l1 = s.queue .l1 :=
    State.revokeEntries_keeps (·.queue .l1) (fun _ _ _ => rfl) (fun _ _ => rfl) (fun _ _ => rfl) .l0 _ _
  unfold State.revokedPosted
  rw [hqueue]
  refine List.countP_congr fun e _ => ?_
  cases e with
  | posted p => rw [State.survives_posted_congr hactive]
  | ticketed t => exact Iff.rfl

/-- The pass reports to each link what it has made due there (R96). -/
theorem State.Owing.revoke {s : State} (hs : s.Owing noneDue) : s.revoke.Owing noneDue := by
  have h0 := hs.revokeQueue (n := .l0) rfl
  have h1 := h0.revokeQueue (n := .l1) rfl
  rw [s.revokedPosted_revokeQueue] at h1
  have h2 := h1.reportCount (n := .l0) (count := s.revokedPosted .l0) rfl
  have h3 := h2.reportCount (n := .l1) (count := s.revokedPosted .l1) rfl
  intro m
  cases m with
  | l0 => exact h3 .l0
  | l1 => exact h3 .l1

/-- The credits of the posted entries that a gate reset empties out of a queue are reported (R100). -/
theorem State.Owing.emptyQueue {s : State} (hs : s.Owing noneDue) (n : Link) : (s.emptyQueue n).Owing noneDue := by
  have hflushed : (s.updFlushed n (riseBy (s.postedCount n))).Owing noneDue := hs.of_credit rfl
  have hempty := hflushed.setQueue n [] (s.postedCount n) (by rw [noneDue_get, List.countP_nil, Nat.zero_add]; rfl)
    (Nat.zero_le 16)
  have h := hempty.reportCount (n := n) (count := s.postedCount n) (by rw [PerLink.get_set_self])
  rwa [PerLink.set_set, noneDue_set_zero] at h

theorem State.Owing.resetWork {s : State} (hs : s.Owing noneDue) : s.resetWork.Owing noneDue := by
  have htickets (x : Vector Ticket 24) : ({ s with tickets := x } : State).Owing noneDue := hs.of_credit rfl
  exact ((htickets _).emptyQueue .l0).emptyQueue .l1

theorem State.clearNotices_credit (s : State) : s.clearNotices.credit = s.credit := rfl

theorem State.Owing.gateReset {s : State} (hs : s.Owing noneDue) : s.gateReset.Owing noneDue := by
  have hpointer (u : State) (hu : u.Owing noneDue) : ({ u with pointer := .wq0 } : State).Owing noneDue :=
    hu.of_credit rfl
  have hcleared := (hs.of_credit s.flushDirect_credit).of_credit s.flushDirect.clearNotices_credit
  exact hpointer _ (hcleared.resetWork.of_credit (State.resetProbes_credit _))

/-! ### Link reset and coming UP -/

theorem State.resetTickets_credit (s : State) (n : Link) :
    (s.resetTickets n).credit = (s.setQueue n ((s.queue n).filter (·.isPosted))).credit := by
  funext m
  simp only [State.credit, State.port, State.resetTickets_ports, State.setQueue_ports, State.resetTickets_queue,
    State.setQueue_queue]

theorem countP_posted_filter_posted (es : List WorkEntry) :
    (es.filter (·.isPosted)).countP (·.isPosted) = es.countP (·.isPosted) := by
  rw [List.countP_filter]
  simp only [Bool.and_self]

/-- The posted entries of a queue stay at a link reset, and the ticketed ones leave it (R99). -/
theorem State.Owing.resetTickets {s : State} (hs : s.Owing noneDue) (n : Link) : (s.resetTickets n).Owing noneDue :=
  (hs.setQueue_same n _ (countP_posted_filter_posted _) (hs.ticketed_le List.filter_sublist)).of_credit
    (s.resetTickets_credit n)

/-- Step 5 of a link reset (R190): a DOWN link has no credits. -/
theorem State.Owing.takeDown {s : State} (hs : s.Owing noneDue) (n : Link) :
    (s.updPort n Port.takeDown).Owing noneDue := by
  refine hs.change_same n (fun m hm => s.updPort_credit_other _ hm) ?_
  obtain ⟨hbound, hticketed, _, _⟩ := hs.balanced n
  rw [s.updPort_credit_self, noneDue_get]
  exact ⟨hbound, hticketed, rfl, rfl⟩

theorem State.Owing.linkReset {s : State} (hs : s.Owing noneDue) (n : Link) : (s.linkReset n).Owing noneDue := by
  have hdiscard : (s.updPort n Port.discardOutbound).Owing noneDue :=
    hs.of_credit (s.updPort_credit n fun _ => ⟨rfl, rfl, rfl⟩)
  have henables : ((s.updPort n Port.discardOutbound).updPort n Port.clearEnables).Owing noneDue :=
    hdiscard.of_credit (State.updPort_credit _ n fun _ => ⟨rfl, rfl, rfl⟩)
  have hsent : (((s.updPort n Port.discardOutbound).updPort n Port.clearEnables).clearSent n).Owing noneDue :=
    henables.of_credit rfl
  exact ((hsent.resetTickets n).of_credit (State.releaseLease_credit _ n)).takeDown n

/-- The WELCOME grants 16 credits less the link's queued posted entries (R188). -/
theorem State.Owing.bringUp {s : State} (hs : s.Owing noneDue) (n : Link) : (s.bringUp n).Owing noneDue := by
  refine State.Owing.of_credit ?_ (State.emitAll_credit _ n)
  refine hs.change_same n (fun m hm => s.updPort_credit_other _ hm) ?_
  obtain ⟨hbound, hticketed, _, _⟩ := hs.balanced n
  rw [s.updPort_credit_self, noneDue_get]
  exact ⟨hbound, hticketed, rfl, Nat.sub_add_cancel hbound⟩

theorem takeHello_owing (n : Link) {s : State} (hs : s.Owing noneDue) : (takeHello n s).Owing noneDue := by
  have hcounted : (s.counted n).Owing noneDue := hs.of_credit (s.counted_credit n)
  unfold takeHello
  split
  · exact (hcounted.linkReset n).bringUp n
  · exact hcounted.bringUp n

theorem takeLossOfSignal_owing (n : Link) (b : Bool) {s : State} (hs : s.Owing noneDue) :
    (takeLossOfSignal n b s).Owing noneDue := by
  have hlevel : ({ s with losPin := s.losPin.set n b } : State).Owing noneDue := hs.of_credit rfl
  unfold takeLossOfSignal
  split
  · exact hlevel.linkReset n
  · exact hlevel

/-! ### Owners of management commands -/

/-- The owner's part of a management command leaves what the law of credits reads. -/
def LeavesCredit (owner : List Byte → State → MgmtAnswer) : Prop := ∀ ops s, (owner ops s).state.credit = s.credit

theorem leavesCredit_of_no_port (n : Link) :
    LeavesCredit ownerLeaseRenew ∧ LeavesCredit ownerCountersRead ∧ LeavesCredit ownerWindowStage ∧
      LeavesCredit ownerWindowUnstage ∧ LeavesCredit ownerWindowLock ∧ LeavesCredit ownerWindowRead ∧
      LeavesCredit ownerSetQuota ∧ LeavesCredit ownerSetDiscard ∧ LeavesCredit ownerSetBpTimeout ∧
      LeavesCredit ownerSetFaultLimit ∧ LeavesCredit ownerSlotStatus ∧ LeavesCredit ownerNoticeAck ∧
      LeavesCredit (ownerNoticeRead n) := by
  and_intros <;> intro ops s
  · unfold ownerLeaseRenew; split <;> rfl
  all_goals
    simp only [ownerCountersRead, ownerWindowStage, ownerWindowUnstage, ownerWindowLock, ownerWindowRead,
      ownerSetQuota, ownerSetDiscard, ownerSetBpTimeout, ownerSetFaultLimit, ownerSlotStatus, ownerNoticeAck,
      ownerNoticeRead]
    repeat' split
    all_goals rfl

theorem ownerLeaseTake_leavesCredit (n : Link) : LeavesCredit (ownerLeaseTake n) := by
  intro ops s
  unfold ownerLeaseTake
  split
  · split
    · rfl
    · split
      · exact State.raise_credit _ _
      · split <;> rfl
  · rfl

theorem ownerLeaseDrop_leavesCredit : LeavesCredit ownerLeaseDrop := by
  intro ops s
  unfold ownerLeaseDrop
  split
  · exact s.loseLease_credit _ _
  · rfl

theorem ownerCountersClear_leavesCredit : LeavesCredit ownerCountersClear := by
  intro ops s
  unfold ownerCountersClear
  split
  · split
    · exact s.clearCounters_credit _
    · rfl
  · rfl

theorem ownerSlotProbe_leavesCredit : LeavesCredit ownerSlotProbe := by
  intro ops s
  unfold ownerSlotProbe
  split
  · split
    · rfl
    · split
      · rfl
      · exact State.changeSlot_credit _ _ _ _
  · rfl

theorem ownerSlotFence_leavesCredit : LeavesCredit ownerSlotFence := by
  intro ops s
  unfold ownerSlotFence
  split
  · split
    · rfl
    · exact s.fence_credit _
  · rfl

theorem ownerNoticeEnable_leavesCredit (n : Link) : LeavesCredit (ownerNoticeEnable n) := by
  intro ops s
  unfold ownerNoticeEnable
  split
  · rw [State.accept_state, State.emitAll_credit]
    exact s.updPort_credit n fun _ => ⟨rfl, rfl, rfl⟩
  · rfl

theorem ownerWindowCommit_owing (ops : List Byte) {s : State} (hs : s.Owing noneDue) :
    (ownerWindowCommit ops s).state.Owing noneDue := by
  have hcommit : s.applyCommit.Owing noneDue := hs.of_credit s.applyCommit_credit
  unfold ownerWindowCommit
  split
  · split
    · exact hs
    · split
      · exact hs
      · split
        · exact hs
        · rw [State.accept_state]
          split
          · exact hcommit.revoke
          · exact hcommit
  · exact hs

/-! ### Every command and every step -/

/-- The credits law is kept by an arrival whose taking keeps it: a frame that waits writes no credit. -/
theorem Arrives.keeps_owing {c : Instr} {n : Link} {f : Option RawFrame} {take : State → State}
    (harr : Arrives c n f take) (h : ∀ {s : State}, s.Owing noneDue → (take s).Owing noneDue) :
    Keeps c (·.Owing noneDue) :=
  keeps_of_take harr fun s hs =>
    State.arrive_keeps (·.Owing noneDue) s n f take hs (fun g => hs.of_credit (s.waitAtReceiver_credit n g)) (h hs)

theorem State.Owing.dispatch {s : State} (hs : s.Owing noneDue) (n : Link) {act : State → State}
    (hact : ∀ {u : State}, u.Owing noneDue → (act u).Owing noneDue) : (s.dispatch n act).Owing noneDue :=
  State.dispatch_keeps (·.Owing noneDue) s n act (hs.of_credit (s.updPort_credit n fun _ => ⟨rfl, rfl, rfl⟩))
    (hact (hs.of_credit (s.counted_credit n)))

section
variable {c : Instr} {n : Link} {f : Option RawFrame} {tag code : Byte} {count : Nat} {lease : Bool} {ops : List Byte}
  {owner : List Byte → State → MgmtAnswer}

theorem Arrives.keeps_owing_of_owner (harr : Arrives c n f (·.manage n tag code count lease ops owner))
    (h : ∀ {s : State}, s.Owing noneDue → (owner ops s).state.Owing noneDue) : Keeps c (·.Owing noneDue) :=
  harr.keeps_owing fun hs => hs.dispatch n fun hu =>
    State.checked_keeps (·.Owing noneDue) _ n tag code count lease ops owner
      (fun v m f hv => hv.of_credit (v.form_credit m f)) hu fun _ _ => h hu

theorem Arrives.keeps_owing_of_leaves (harr : Arrives c n f (·.manage n tag code count lease ops owner))
    (h : LeavesCredit owner) : Keeps c (·.Owing noneDue) :=
  harr.keeps_owing_of_owner fun hs => hs.of_credit (h ops _)

end

theorem takeWrite_owing (n : Link) (a : UpAddr) (len : Byte) (data : List Byte) {s : State} (hs : s.Owing noneDue) :
    (takeWrite n a len data s).Owing noneDue := by
  unfold takeWrite
  split
  · exact hs.dispatch n fun hu => hu.creditedWrite n a _ data
  · exact hs.of_credit (s.dropFrame_credit n _)

theorem takeWriteConfirmed_owing (n : Link) (tag : Byte) (a : UpAddr) (len : Byte) (data : List Byte) {s : State}
    (hs : s.Owing noneDue) : (takeWriteConfirmed n tag a len data s).Owing noneDue := by
  unfold takeWriteConfirmed
  split
  · exact hs.dispatch n fun hu => hu.ticketedRequest n tag _ a _ data
  · exact hs.of_credit (s.dropFrame_credit n _)

theorem takeClaim_owing (n : Link) (tag number gen : Byte) {s : State} (hs : s.Owing noneDue) :
    (takeClaim n tag number gen s).Owing noneDue := by
  refine hs.dispatch n fun hu => ?_
  split
  · exact hu.of_credit (State.claimTicket_credit _ n tag _)
  · exact hu.of_credit (State.form_credit _ _ _)

theorem takeCancel_owing (n : Link) (tag number gen : Byte) {s : State} (hs : s.Owing noneDue) :
    (takeCancel n tag number gen s).Owing noneDue := by
  refine hs.dispatch n fun hu => ?_
  split
  · exact hu.cancelTicket n tag _
  · exact hu.of_credit (State.form_credit _ _ _)

theorem takeFrameDrop_credit (n : Link) (f : RawFrame) (s : State) : (takeFrameDrop n f s).credit = s.credit := by
  unfold takeFrameDrop
  split
  · exact s.dropFrame_credit n _
  · rfl

theorem takeAlertAssertion_credit (i : Fin 16) (b : Bool) (s : State) :
    (takeAlertAssertion i b s).credit = s.credit := by
  unfold takeAlertAssertion
  split
  · exact State.raise_credit _ _
  · rfl

/-- The end of a timer leaves the law where what it brings about leaves what the law reads. -/
theorem State.Owing.atTimerEnd {s : State} (hs : s.Owing noneDue) (e : Nat) {f : State → State}
    (hf : ∀ u : State, (f u).credit = u.credit) : (s.atTimerEnd e f).Owing noneDue :=
  hs.of_credit (State.atTimerEnd_keeps State.credit (fun _ _ => rfl) s e f (hf _))

theorem owing_reset : State.reset.Owing noneDue := by
  intro n
  cases n <;> exact ⟨by decide, by decide, rfl, rfl⟩

theorem takeFullReset_owing (cause : ResetCause) {s : State} (hs : s.Owing noneDue) :
    (takeFullReset cause s).Owing noneDue := by
  cases cause with
  | powerOn => exact owing_reset.of_credit rfl
  | resetInput asserted =>
    cases asserted with
    | false => exact hs.of_credit rfl
    | true =>
      unfold takeFullReset
      dsimp only
      split
      · exact hs
      · exact owing_reset.of_credit rfl

theorem keeps_owing (c : Instr) : Keeps c (·.Owing noneDue) := by
  obtain ⟨hrenew, hread, hstage, hunstage, hlock, hwindow, hquota, hdiscard, htimeout, hlimit, hstatus, hack, _⟩ :=
    leavesCredit_of_no_port .l0
  cases hans : answersBackplane c with
  | true => exact fun s t hexec hs => (exec_answerOutcome c hans hexec).owing hs
  | false =>
    cases c with
    | phaseTimerExpiry | selectAccept | selectReject | selectWait | writeBeatAccept | writeBeatError | readBeatData
    | readBeatError => cases hans
    | fullReset cause => exact keeps_of_take (fun _ => rfl) fun _ => takeFullReset_owing cause
    | lossOfSignal n b => exact keeps_of_take (fun _ => rfl) fun _ => takeLossOfSignal_owing n b
    | alertAssertion i b =>
      exact keeps_of_take (fun _ => rfl) fun s hs => hs.of_credit (takeAlertAssertion_credit i b s)
    | hello n => exact Arrives.keeps_owing (fun _ => rfl) (takeHello_owing n)
    | frameDrop n f => exact Arrives.keeps_owing (fun _ => rfl) fun hs => hs.of_credit (takeFrameDrop_credit n f _)
    | frameWaitsAtReceiver n f =>
      exact (frameWaitsAtReceiver_arrives n f).keeps_owing fun {s} hs =>
        hs.of_credit (s.updPort_credit n fun _ => ⟨rfl, rfl, rfl⟩)
    | read n tag a len =>
      exact Arrives.keeps_owing (take := takeRead n tag a len) (fun _ => rfl) fun hs =>
        hs.dispatch n fun hu => hu.ticketedRequest n tag .read a _ []
    | writeConfirmed n tag a len data =>
      exact Arrives.keeps_owing (fun _ => rfl) (takeWriteConfirmed_owing n tag a len data)
    | write n a len data => exact Arrives.keeps_owing (fun _ => rfl) (takeWrite_owing n a len data)
    | claim n tag number gen => exact Arrives.keeps_owing (fun _ => rfl) (takeClaim_owing n tag number gen)
    | cancel n tag number gen => exact Arrives.keeps_owing (fun _ => rfl) (takeCancel_owing n tag number gen)
    | mgmtUnknownCommand n tag code ops =>
      exact Arrives.keeps_owing (take := takeMgmtUnknown n tag code) (fun _ => rfl) fun hs =>
        hs.dispatch n fun {u} hu => hu.of_credit (u.form_credit n _)
    | leaseTake n tag ops => exact Arrives.keeps_owing_of_leaves (fun _ => rfl) (ownerLeaseTake_leavesCredit n)
    | leaseRenew n tag ops => exact Arrives.keeps_owing_of_leaves (fun _ => rfl) hrenew
    | leaseDrop n tag ops => exact Arrives.keeps_owing_of_leaves (fun _ => rfl) ownerLeaseDrop_leavesCredit
    | identify n tag ops => exact Arrives.keeps_owing_of_leaves (owner := ownerIdentify n) (fun _ => rfl) fun _ _ => rfl
    | countersRead n tag ops => exact Arrives.keeps_owing_of_leaves (fun _ => rfl) hread
    | countersClear n tag ops => exact Arrives.keeps_owing_of_leaves (fun _ => rfl) ownerCountersClear_leavesCredit
    | gateReset n tag ops =>
      exact Arrives.keeps_owing_of_owner (owner := ownerGateReset) (fun _ => rfl) fun hs => hs.gateReset
    | windowStage n tag ops => exact Arrives.keeps_owing_of_leaves (fun _ => rfl) hstage
    | windowUnstageClear n tag ops => exact Arrives.keeps_owing_of_leaves (fun _ => rfl) hunstage
    | windowUnstageWithdraw n tag ops => exact Arrives.keeps_owing_of_leaves (fun _ => rfl) hunstage
    | windowCommit n tag ops => exact Arrives.keeps_owing_of_owner (fun _ => rfl) (ownerWindowCommit_owing ops)
    | windowLock n tag ops => exact Arrives.keeps_owing_of_leaves (fun _ => rfl) hlock
    | windowRead n tag ops => exact Arrives.keeps_owing_of_leaves (fun _ => rfl) hwindow
    | setQuota n tag ops => exact Arrives.keeps_owing_of_leaves (fun _ => rfl) hquota
    | setDiscard n tag ops => exact Arrives.keeps_owing_of_leaves (fun _ => rfl) hdiscard
    | ticketSummary n tag ops =>
      exact Arrives.keeps_owing_of_leaves (owner := ownerTicketSummary) (fun _ => rfl) fun _ _ => rfl
    | setBpTimeout n tag ops => exact Arrives.keeps_owing_of_leaves (fun _ => rfl) htimeout
    | slotProbe n tag ops => exact Arrives.keeps_owing_of_leaves (fun _ => rfl) ownerSlotProbe_leavesCredit
    | slotFence n tag ops => exact Arrives.keeps_owing_of_leaves (fun _ => rfl) ownerSlotFence_leavesCredit
    | setFaultLimit n tag ops => exact Arrives.keeps_owing_of_leaves (fun _ => rfl) hlimit
    | slotStatus n tag ops => exact Arrives.keeps_owing_of_leaves (fun _ => rfl) hstatus
    | noticeEnable n tag ops => exact Arrives.keeps_owing_of_leaves (fun _ => rfl) (ownerNoticeEnable_leavesCredit n)
    | noticeAck n tag ops => exact Arrives.keeps_owing_of_leaves (fun _ => rfl) hack
    | noticeRead n tag ops =>
      obtain ⟨_, _, _, _, _, _, _, _, _, _, _, _, hnotice⟩ := leavesCredit_of_no_port n
      exact Arrives.keeps_owing_of_leaves (fun _ => rfl) hnotice
    | holdExpiry t =>
      refine IsEvent.keeps (fun _ => rfl) fun s hs => ?_
      split
      · exact hs.atTimerEnd _ fun u => u.expireHold_credit t _ _
      · exact hs.atTimerEnd _ fun u => u.expireHold_credit t _ _
      · exact hs
    | discardExpiry t =>
      refine IsEvent.keeps (fun _ => rfl) fun s hs => ?_
      split
      · exact hs.atTimerEnd _ fun u => u.expireReady_credit t _
      · exact hs
    | leaseExpiry =>
      refine IsEvent.keeps (fun _ => rfl) fun s hs => ?_
      split
      · exact hs.atTimerEnd _ fun u => u.loseLease_credit _ _
      · exact hs
    | arbiterGrant =>
      refine keeps_of_take (take := takeArbiterGrant) (fun _ => rfl) fun s hs => ?_
      rcases takeArbiterGrant_cases s with e | ⟨src, _, _, e⟩
      · rw [e]
        exact hs
      · rw [e]
        exact hs.grant src
    | headDisposal n =>
      refine IsEvent.keeps (fun _ => rfl) fun s hs => ?_
      split
      · next hq =>
        split
        · split
          · exact hs
          · exact hs.disposeHead _ hq
        · exact hs
      · exact hs
    | outboundFrameSent n =>
      refine IsEvent.keeps (fun _ => rfl) fun s hs => hs.of_credit (s.updPort_credit n fun p => ?_)
      split <;> exact ⟨rfl, rfl, rfl⟩
    | transmissionBegins n =>
      refine IsEvent.keeps (fun _ => rfl) fun s hs => hs.of_credit (s.updPort_credit n fun p => ?_)
      split <;> exact ⟨rfl, rfl, rfl⟩

/-- Beside commands, a step writes only the time, the queue of commands, the free values drawn and the frames that wait
at a receiver (log 5), which the law does not read. -/
theorem step_keeps_owing {s t : State} (hs : s.Owing noneDue) (hstep : step s = .next t) : t.Owing noneDue := by
  unfold step at hstep
  split at hstep
  · next c rest _ => exact keeps_owing c _ t hstep (hs.of_credit rfl)
  · have hdrawn : ({ s with free := s.free + 1 } : State).Owing noneDue := hs.of_credit rfl
    unfold State.idleStep GateEvent.run at hstep
    split at hstep
    · cases hstep
      exact hs.of_credit rfl
    · next n _ =>
      unfold State.takeWaiting at hstep
      split at hstep
      · cases hstep
        exact hdrawn
      · split at hstep
        · next u hu =>
          cases hstep
          have hnone := hdrawn.of_credit (State.updPort_credit _ n (f := fun p => { p with waiting := [] })
            fun _ => ⟨rfl, rfl, rfl⟩)
          exact (keeps_owing _ _ u hu hnone).of_credit (u.updPort_credit n fun _ => ⟨rfl, rfl, rfl⟩)
        · cases hstep
        · cases hstep
    · next c _ => exact keeps_owing c _ t hstep hdrawn

/-- Settles O35: law 7 is the law of credits with nothing due, which every command and so every step keeps; within a
command a credit is due from the moment its entry leaves the queue until it is reported. -/
theorem creditsAddUpToSixteen : Obligations.CreditsAddUpToSixteen := by
  intro s t hs hstep
  exact t.creditLaw_iff.2 (step_keeps_owing (s.creditLaw_iff.1 hs) hstep)

/-! ### HELLO -/

/-- A kind that is not in a link's enable set forms no NOTICE there (R148). -/
theorem State.emit_of_not_enabled (s : State) {k : NoticeKind} {n : Link}
    (h : enabledIn (s.port n).enables k = false) : s.emit k n = s := by
  unfold State.emit
  split
  · rfl
  · exact if_neg (by simp [h])

/-- An empty enable set passes no kind (R147, R189). -/
theorem State.emitAll_of_enables_zero (s : State) {n : Link} (h : (s.port n).enables = 0) : s.emitAll n = s := by
  have hnone (k : NoticeKind) : s.emit k n = s := s.emit_of_not_enabled (by rw [h]; exact BitVec.getLsbD_zero)
  simp only [State.emitAll, NoticeKind.all, List.foldl_cons, List.foldl_nil, hnone]

/-- A link reset keeps the posted entries of its queue (R99). -/
theorem State.linkReset_queue_self (s : State) (n : Link) :
    (s.linkReset n).queue n = (s.queue n).filter (·.isPosted) := by
  have hreleased (u : State) : (u.releaseLease n).queue n = u.queue n :=
    State.releaseLease_keeps (·.queue n) (fun _ _ => rfl) (fun _ _ => rfl) (fun _ _ _ => rfl) (fun _ _ => rfl) u n
  exact (hreleased _).trans ((State.resetTickets_queue _ n n).trans (if_pos rfl))

theorem State.linkReset_postedCount (s : State) (n : Link) : (s.linkReset n).postedCount n = s.postedCount n := by
  unfold State.postedCount
  rw [s.linkReset_queue_self, countP_posted_filter_posted]

theorem exec_hello_takesNow {s : State} {n : Link} (h : s.takesNow n = true) :
    exec (.hello n) s = .next (takeHello n s) := by
  have harr : Arrives (.hello n) n _ (takeHello n) := fun _ => rfl
  exact harr.exec_takesNow s h

theorem takeHello_down {s : State} {n : Link} (h : (s.port n).up = false) :
    takeHello n s = (s.counted n).bringUp n := if_neg (by simp [h])

theorem takeHello_up {s : State} {n : Link} (h : (s.port n).up = true) :
    takeHello n s = ((s.counted n).linkReset n).bringUp n := if_pos h

/-- The state of a link that comes UP at its emission tests: the WELCOME has been formed (R188). -/
def State.welcomed (s : State) (n : Link) (credits : Nat) : State :=
  s.updPort n (·.welcome n credits)

theorem State.bringUp_eq {s : State} {n : Link} {count : Nat} (h : s.postedCount n = count) :
    s.bringUp n = (s.welcomed n (16 - count)).emitAll n := by
  rw [← h]
  rfl

theorem State.welcomed_enables (s : State) (n : Link) (credits : Nat) :
    ((s.welcomed n credits).port n).enables = (s.port n).enables := by
  rw [State.welcomed, State.updPort_port, if_pos rfl]
  rfl

/-- Settles O56: a link reset first where the link is UP; it keeps the posted entries, so the WELCOME grants as if it
had not been. -/
theorem helloBringsTheLinkUp : Obligations.HelloBringsTheLinkUp := by
  intro s n htakes welcomed
  have hcounted : (s.counted n).postedCount n = s.postedCount n := rfl
  have hdown (h : (s.port n).up = false) :
      exec (.hello n) s = .next (((s.counted n).welcomed n (16 - s.postedCount n)).emitAll n) := by
    rw [exec_hello_takesNow htakes, takeHello_down h, State.bringUp_eq hcounted]
  refine ⟨hdown, fun hup => ?_, fun h henables => ?_⟩
  · rw [exec_hello_takesNow htakes, takeHello_up hup,
      State.bringUp_eq ((State.linkReset_postedCount _ n).trans hcounted)]
    rfl
  · have hempty : (((s.counted n).welcomed n (16 - s.postedCount n)).port n).enables = 0 := by
      rw [State.welcomed_enables, State.counted_port, if_pos rfl]
      exact henables
    rw [hdown h, State.emitAll_of_enables_zero _ hempty, State.welcomed, s.counted_updPort]
    rfl

/-! ### Outbound frames -/

theorem State.updPort_eq {s : State} {n : Link} {f : Port → Port} {p : Port} (h : f (s.port n) = p) :
    s.updPort n f = { s with ports := s.ports.set n p } := by
  rw [← h]
  rfl

/-- Settles O59: a port that can begin marks the head of its list, and a frame that was sent is dropped from the
head. -/
theorem outboundFramesLeaveInOrder : Obligations.OutboundFramesLeaveInOrder := by
  intro s n hr
  refine ⟨fun hup hfree houtbound => ?_, fun f rest hsending houtbound => ?_⟩
  · have hev : IsEvent (.transmissionBegins n) _ := fun _ => rfl
    have hbegin : (s.port n).canBegin = true := by simp [Port.canBegin, hup, hfree, houtbound]
    rw [hev s, s.unlessReset_next _ hr]
    exact congrArg _ (State.updPort_eq (if_pos hbegin))
  · have hev : IsEvent (.outboundFrameSent n) _ := fun _ => rfl
    have htail : (s.port n).outbound.drop 1 = rest := by rw [houtbound, List.drop_one, List.tail_cons]
    rw [hev s, s.unlessReset_next _ hr, ← htail]
    exact congrArg _ (State.updPort_eq (if_pos hsending))

end Sys2Proof.Machine

/-! PROOF. The statements of 10_frame_and_record_formats.md: commands and frames are read back from each other, and
frames from their bytes on the link. -/

namespace Sys2Proof.Machine

/-! ### Byte order -/

/-- The two bytes of a 16-bit value put together are that value (R200). -/
theorem append_be16 (x : BitVec 16) : (x.extractLsb' 8 8 ++ x.extractLsb' 0 8 : BitVec 16) = x := by
  ext i hi
  grind

/-- Every 32-bit value is put together from four bytes (R200). -/
theorem exists_ofBe32 (a : BitVec 32) : ∃ b3 b2 b1 b0, ofBe32 b3 b2 b1 b0 = a := by
  refine ⟨a.extractLsb' 24 8, a.extractLsb' 16 8, a.extractLsb' 8 8, a.extractLsb' 0 8, ?_⟩
  unfold ofBe32
  ext i hi
  grind

/-! ### The command of the frame of a command -/

/-- A body that carries a command makes a sound frame. -/
theorem Carries.frameFault_eq {n : Link} {kind : Byte} {body : List Byte} {c : Instr} (h : Carries n kind body c) :
    frameFault (.seal kind body) = none := by
  have hkind : inboundKind kind = true := by cases h <;> rfl
  have hfits : bodyFits kind body := by
    by_contra hnot
    have hnone := (decodeBody_eq_none_iff n kind body hkind).2 hnot
    cases hnone.symm.trans ((decodeBody_eq_some_iff n kind body c).2 h)
  exact (frameFault_eq_none_iff _).2 ⟨rfl, hkind, hfits⟩

/-- The frame of a body is read as the command that the body carries. -/
theorem Carries.decodeFrame_eq {n : Link} {kind : Byte} {body : List Byte} {c : Instr} (h : Carries n kind body c) :
    decodeFrame n (.seal kind body) = c := by
  have hbody : decodeBody n kind body = some c := (decodeBody_eq_some_iff n kind body c).2 h
  simp only [decodeFrame, h.frameFault_eq]
  exact congrArg (Option.getD · _) hbody

/-- The frame of a command that some body carries is read back as that command. -/
theorem Carries.decodeFrame_encodeFrame {n : Link} {kind : Byte} {body : List Byte} {c : Instr} {f : RawFrame}
    (h : Carries n kind body c) (he : encodeFrame c = some f) : decodeFrame n f = c := by
  obtain rfl : RawFrame.seal kind body = f := Option.some.inj (h.encodeFrame_eq.symm.trans he)
  exact h.decodeFrame_eq

theorem decodeFrame_mgmtFrame (n : Link) (t code : Byte) (ops : List Byte) :
    decodeFrame n (mgmtFrame t code ops) = mgmtInstr n t code ops :=
  (Carries.mgmt t code ops).decodeFrame_eq

theorem mgmtInstr_unstage_clear (n : Link) (t : Byte) {ops : List Byte} (h : hasClearFlag ops = true) :
    mgmtInstr n t Config.codeWindowUnstage ops = .windowUnstageClear n t ops :=
  if_pos (of_decide_eq_true h)

/-- Operands without a set clear flag, malformed ones among them, are of the row without the flag (log 16). -/
theorem mgmtInstr_unstage_withdraw (n : Link) (t : Byte) {ops : List Byte} (h : hasClearFlag ops = false) :
    mgmtInstr n t Config.codeWindowUnstage ops = .windowUnstageWithdraw n t ops :=
  if_neg (of_decide_eq_false h)

theorem mgmtInstr_unknown (n : Link) (t : Byte) {code : Byte} (ops : List Byte) (h : code ∉ Config.commandCodes) :
    mgmtInstr n t code ops = .mgmtUnknownCommand n t code ops := by
  simp only [Config.commandCodes, List.mem_cons, List.not_mem_nil, or_false, not_or] at h
  simp only [mgmtInstr, h, if_false]

/-- The frame of a well-formed command is read back as that command (R200, R201, R203). -/
theorem exists_decodeFrame_encodeFrame {c : Instr} {f : RawFrame} (hwf : c.wellFormed = true)
    (he : encodeFrame c = some f) : ∃ n, decodeFrame n f = c := by
  cases c with
  | hello n => exact ⟨n, Carries.hello.decodeFrame_encodeFrame he⟩
  | frameDrop n g =>
    cases he
    obtain ⟨_, hfault⟩ := of_decide_eq_true hwf
    obtain ⟨why, hwhy⟩ := Option.isSome_iff_exists.1 hfault
    exact ⟨n, decodeFrame_of_fault n f why hwhy⟩
  | read n t a l =>
    obtain ⟨a3, a2, a1, a0, rfl⟩ := exists_ofBe32 a
    exact ⟨n, (Carries.read t a3 a2 a1 a0 l).decodeFrame_encodeFrame he⟩
  | write n a l d =>
    obtain ⟨a3, a2, a1, a0, rfl⟩ := exists_ofBe32 a
    obtain ⟨hlen, _⟩ := of_decide_eq_true hwf
    exact ⟨n, (Carries.write a3 a2 a1 a0 l d hlen).decodeFrame_encodeFrame he⟩
  | writeConfirmed n t a l d =>
    obtain ⟨a3, a2, a1, a0, rfl⟩ := exists_ofBe32 a
    obtain ⟨hlen, _⟩ := of_decide_eq_true hwf
    exact ⟨n, (Carries.writeConfirmed t a3 a2 a1 a0 l d hlen).decodeFrame_encodeFrame he⟩
  | claim n t num gen => exact ⟨n, (Carries.claim t num gen).decodeFrame_encodeFrame he⟩
  | cancel n t num gen => exact ⟨n, (Carries.cancel t num gen).decodeFrame_encodeFrame he⟩
  | mgmtUnknownCommand n t code ops =>
    cases he
    obtain ⟨_, hcode⟩ := of_decide_eq_true hwf
    exact ⟨n, (decodeFrame_mgmtFrame n t code ops).trans (mgmtInstr_unknown n t ops hcode)⟩
  | windowUnstageClear n t ops =>
    cases he
    exact ⟨n, (decodeFrame_mgmtFrame n t _ ops).trans (mgmtInstr_unstage_clear n t hwf)⟩
  | windowUnstageWithdraw n t ops =>
    cases he
    obtain ⟨_, hflag⟩ := of_decide_eq_true hwf
    exact ⟨n, (decodeFrame_mgmtFrame n t _ ops).trans (mgmtInstr_unstage_withdraw n t hflag)⟩
  | leaseTake n t ops | leaseRenew n t ops | leaseDrop n t ops | identify n t ops | countersRead n t ops
  | countersClear n t ops | gateReset n t ops | windowStage n t ops | windowCommit n t ops | windowLock n t ops
  | windowRead n t ops | setQuota n t ops | setDiscard n t ops | ticketSummary n t ops | setBpTimeout n t ops
  | slotProbe n t ops | slotFence n t ops | setFaultLimit n t ops | slotStatus n t ops | noticeEnable n t ops
  | noticeAck n t ops | noticeRead n t ops =>
    cases he
    -- The code of the row picks the row, whatever the operands.
    exact ⟨n, decodeFrame_mgmtFrame n t _ ops⟩
  | _ => cases he

/-! ### The frames in a stream of bytes -/

/-- A frame at the front of the bytes is found, and the scan goes on behind it (R185, R200). -/
theorem scanFrames_wire_append (fuel : Nat) (f : RawFrame) (rest : List Byte) (h : f.body.length ≤ 255) :
    scanFrames (fuel + 1) (f.wire ++ rest) = f :: scanFrames fuel rest := by
  have hlen : (BitVec.ofNat 8 f.body.length).toNat = f.body.length := by
    rw [BitVec.toNat_ofNat, Nat.mod_eq_of_lt (by omega)]
  simp [scanFrames, RawFrame.wire, be16, hlen, append_be16]

/-- When nothing stands between the frames, each takes the scan one step. -/
theorem scanFrames_flatMap_wire (fs : List RawFrame) (fuel : Nat) (hfuel : fs.length ≤ fuel)
    (h : ∀ f ∈ fs, f.body.length ≤ 255) : scanFrames fuel (fs.flatMap RawFrame.wire) = fs := by
  induction fs generalizing fuel with
  | nil => cases fuel <;> rfl
  | cons f fs ih =>
    obtain ⟨hf, hfs⟩ := List.forall_mem_cons.1 h
    cases fuel with
    | zero => cases hfuel
    | succ fuel =>
      rw [List.flatMap_cons, scanFrames_wire_append fuel f _ hf, ih fuel (Nat.le_of_succ_le_succ hfuel) hfs]

theorem length_le_flatMap_wire (fs : List RawFrame) : fs.length ≤ (fs.flatMap RawFrame.wire).length := by
  induction fs with
  | nil => rfl
  | cons f fs ih =>
    simp only [List.flatMap_cons, List.length_append, List.length_cons, RawFrame.wire]
    omega

/-- Settles O60: from a command to its frame and back by the body it carries, from a frame to its command and back by
the checks of R186, and from the bytes by induction on the frames. -/
theorem framesReadBack : Obligations.FramesReadBack :=
  ⟨fun _ _ => exists_decodeFrame_encodeFrame, encodeFrame_decodeFrame,
    fun fs => scanFrames_flatMap_wire fs _ (length_le_flatMap_wire fs)⟩

end Sys2Proof.Machine

/-! PROOF. The statements about steps: the command at the front of the queue is the one that runs, and it has a next
state with the same commands behind it (logs 22 and 19). The queue is a field that no operation writes, so the second
goes through the shared operations by their laws, then through the commands. -/

namespace Sys2Proof.Machine

/-! ### The front of the queue -/

theorem step_front {s : State} {c : Instr} {rest : List Instr} (h : s.pending = c :: rest) :
    step s = exec c { s with pending := rest } := by
  simp only [step, h]

/-- Settles O1: the queue of the state that steps has the command at its front. -/
theorem stepTakesTheFrontCommand : Obligations.StepTakesTheFrontCommand :=
  fun _ _ _ => step_front rfl

/-! ### Shared operations leave the queue of commands -/

@[simp] theorem State.waitAtReceiver_pending (s : State) (n : Link) (f : RawFrame) :
    (s.waitAtReceiver n f).pending = s.pending :=
  State.waitAtReceiver_keeps State.pending (fun _ _ => rfl) (fun _ _ => rfl) s n f

@[simp] theorem State.dropFrame_pending (s : State) (n : Link) (why : DropReason) :
    (s.dropFrame n why).pending = s.pending :=
  State.dropFrame_keeps State.pending (fun _ _ _ => rfl) (fun _ _ => rfl) (fun _ _ => rfl) s n why

@[simp] theorem State.ticketedRequest_pending (s : State) (n : Link) (tag : Byte) (op : TicketOp) (a : UpAddr)
    (len : Nat) (data : List Byte) : (s.ticketedRequest n tag op a len data).pending = s.pending :=
  State.ticketedRequest_keeps State.pending (fun _ _ => rfl) (fun _ _ => rfl) (fun _ _ => rfl) (fun _ _ => rfl)
    (fun _ _ _ => rfl) s n tag op a len data

@[simp] theorem State.creditedWrite_pending (s : State) (n : Link) (a : UpAddr) (len : Nat) (data : List Byte) :
    (s.creditedWrite n a len data).pending = s.pending :=
  State.creditedWrite_keeps State.pending (fun _ _ => rfl) (fun _ _ => rfl) (fun _ _ => rfl) (fun _ _ _ => rfl)
    (fun _ _ _ => rfl) (fun _ _ => rfl) s n a len data

@[simp] theorem State.claimTicket_pending (s : State) (n : Link) (tag : Byte) (t : Fin 24) :
    (s.claimTicket n tag t).pending = s.pending :=
  State.claimTicket_keeps State.pending (fun _ _ _ => rfl) (fun _ _ => rfl) s n tag t

@[simp] theorem State.cancelTicket_pending (s : State) (n : Link) (tag : Byte) (t : Fin 24) :
    (s.cancelTicket n tag t).pending = s.pending :=
  State.cancelTicket_keeps State.pending (fun _ _ _ => rfl) (fun _ _ => rfl) (fun _ _ => rfl) s n tag t

@[simp] theorem State.linkReset_pending (s : State) (n : Link) : (s.linkReset n).pending = s.pending :=
  State.linkReset_keeps State.pending (fun _ _ _ => rfl) (fun _ _ => rfl) (fun _ _ => rfl) (fun _ _ => rfl)
    (fun _ _ => rfl) (fun _ _ => rfl) (fun _ _ => rfl) s n

@[simp] theorem State.bringUp_pending (s : State) (n : Link) : (s.bringUp n).pending = s.pending :=
  State.bringUp_keeps State.pending (fun _ _ _ => rfl) (fun _ _ => rfl) (fun _ _ => rfl) s n

@[simp] theorem State.revoke_pending (s : State) : s.revoke.pending = s.pending :=
  State.revoke_keeps State.pending (fun _ _ _ => rfl) (fun _ _ _ => rfl) (fun _ _ => rfl) (fun _ _ => rfl)
    (fun _ _ => rfl) s

@[simp] theorem State.fence_pending (s : State) (i : Fin 16) : (s.fence i).pending = s.pending :=
  State.fence_keeps State.pending (fun _ _ => rfl) (fun _ _ => rfl) (fun _ _ _ => rfl) (fun _ _ => rfl) s i

@[simp] theorem State.gateReset_pending (s : State) : s.gateReset.pending = s.pending :=
  State.gateReset_keeps State.pending (fun _ _ _ => rfl) (fun _ _ _ => rfl) (fun _ _ => rfl) (fun _ _ => rfl)
    (fun _ _ => rfl) (fun _ _ => rfl) (fun _ _ => rfl) (fun _ _ => rfl) (fun _ _ => rfl) s

@[simp] theorem State.clearCounters_pending (s : State) (g : CounterGroup) :
    (s.clearCounters g).pending = s.pending := by
  cases g <;> rfl

@[simp] theorem State.expireReady_pending (s : State) (t : Fin 24) (r : Request) :
    (s.expireReady t r).pending = s.pending :=
  State.expireReady_keeps State.pending (fun _ _ => rfl) (fun _ _ => rfl) (fun _ _ _ => rfl) (fun _ _ => rfl) s t r

@[simp] theorem State.expireHold_pending (s : State) (t : Fin 24) (r : Request) (st : TicketState) :
    (s.expireHold t r st).pending = s.pending := rfl

@[simp] theorem State.acceptedReport_pending (s : State) (op : Operation) :
    (s.acceptedReport op).pending = s.pending :=
  State.acceptedReport_keeps State.pending (fun _ _ => rfl) s op

@[simp] theorem State.acceptWriteBeat_pending (s : State) (op : Operation) (row : Option ModAddr) (i : Nat) :
    (s.acceptWriteBeat op row i).pending = s.pending :=
  State.acceptWriteBeat_keeps State.pending (fun _ _ => rfl) (fun _ _ => rfl) (fun _ _ _ => rfl) (fun _ _ _ => rfl)
    (fun _ _ => rfl) (fun _ _ => rfl) s op row i

@[simp] theorem State.takeReadBeat_pending (s : State) (op : Operation) (row : Option ModAddr) (i : Nat)
    (got : List Byte) (lanes : BitVec 32) (parity : BitVec 4) :
    (s.takeReadBeat op row i got lanes parity).pending = s.pending :=
  State.takeReadBeat_keeps State.pending (fun _ _ => rfl) (fun _ _ _ => rfl) (fun _ _ => rfl) (fun _ _ => rfl)
    (fun _ _ => rfl) (fun _ _ => rfl) s op row i got lanes parity

@[simp] theorem State.disposeHead_pending (s : State) (n : Link) (e : WorkEntry) (rest : List WorkEntry)
    (i : Fin 16) : (s.disposeHead n e rest i).pending = s.pending :=
  State.disposeHead_keeps State.pending (fun _ _ => rfl) (fun _ _ => rfl) (fun _ _ => rfl) (fun _ _ => rfl)
    (fun _ _ _ => rfl) (fun _ _ _ => rfl) s n e rest i

@[simp] theorem State.grant_pending (s : State) (src : Source) : (s.grant src).pending = s.pending :=
  State.grant_keeps State.pending (fun _ _ => rfl) (fun _ _ => rfl) (fun _ _ => rfl) (fun _ _ => rfl)
    (fun _ _ => rfl) (fun _ _ _ => rfl) (fun _ _ => rfl) (fun _ _ => rfl) s src

/-- Whatever an answer on the backplane does, it leaves the queue. -/
theorem State.AnswerOutcome.pending {s t : State} (h : s.AnswerOutcome t) : t.pending = s.pending := by
  cases h with
  | ignored | selectWaits => rfl
  | selectAccepted | fails | timesOut | writeBeat | readBeat => simp

/-- The end of a timer leaves the queue where what it brings about does. -/
theorem State.atTimerEnd_pending (s : State) (e : Nat) {f : State → State}
    (hf : ∀ u : State, (f u).pending = u.pending) : (s.atTimerEnd e f).pending = s.pending :=
  State.atTimerEnd_keeps State.pending (fun _ _ => rfl) s e f (hf _)

/-- The dispatch of a frame leaves the queue where its owner does. -/
theorem State.dispatch_pending (s : State) (n : Link) {act : State → State}
    (hact : ∀ u : State, (act u).pending = u.pending) : (s.dispatch n act).pending = s.pending :=
  State.dispatch_keeps (·.pending = s.pending) s n act (s.updPort_pending n _)
    ((hact _).trans (s.counted_pending n))

/-! ### Owners of management commands leave the queue of commands -/

/-- The owner's part of a management command leaves the queue of commands. -/
def LeavesPending (owner : List Byte → State → MgmtAnswer) : Prop := ∀ ops s, (owner ops s).state.pending = s.pending

theorem ownerLeaseTake_leavesPending (n : Link) : LeavesPending (ownerLeaseTake n) := by
  intro ops s
  unfold ownerLeaseTake
  split
  · split
    · rfl
    · split
      · exact State.raise_pending _ _
      · split <;> rfl
  · rfl

theorem ownerLeaseRenew_leavesPending : LeavesPending ownerLeaseRenew := by
  intro ops s
  unfold ownerLeaseRenew
  split <;> rfl

theorem ownerLeaseDrop_leavesPending : LeavesPending ownerLeaseDrop := by
  intro ops s
  unfold ownerLeaseDrop
  split
  · exact s.loseLease_pending _ _
  · rfl

theorem ownerCountersClear_leavesPending : LeavesPending ownerCountersClear := by
  intro ops s
  unfold ownerCountersClear
  split
  · split
    · exact s.clearCounters_pending _
    · rfl
  · rfl

theorem ownerGateReset_leavesPending : LeavesPending ownerGateReset := fun _ s => s.gateReset_pending

theorem ownerWindowCommit_leavesPending : LeavesPending ownerWindowCommit := by
  intro ops s
  unfold ownerWindowCommit
  split
  · split
    · rfl
    · split
      · rfl
      · split
        · rfl
        · rw [State.accept_state]
          split <;> simp
  · rfl

theorem ownerSlotProbe_leavesPending : LeavesPending ownerSlotProbe := by
  intro ops s
  unfold ownerSlotProbe
  split
  · split
    · rfl
    · split
      · rfl
      · exact State.changeSlot_pending _ _ _ _
  · rfl

theorem ownerSlotFence_leavesPending : LeavesPending ownerSlotFence := by
  intro ops s
  unfold ownerSlotFence
  split
  · split
    · rfl
    · exact s.fence_pending _
  · rfl

theorem ownerNoticeEnable_leavesPending (n : Link) : LeavesPending (ownerNoticeEnable n) := by
  intro ops s
  unfold ownerNoticeEnable
  split
  · rw [State.accept_state, State.emitAll_pending, State.updPort_pending]
  · rfl

/-- The owners whose every branch refuses, answers, or writes one field of the tables and settings. -/
theorem leavesPending_of_oneField (n : Link) :
    LeavesPending ownerCountersRead ∧ LeavesPending ownerWindowStage ∧ LeavesPending ownerWindowUnstage ∧
      LeavesPending ownerWindowLock ∧ LeavesPending ownerWindowRead ∧ LeavesPending ownerSetQuota ∧
      LeavesPending ownerSetDiscard ∧ LeavesPending ownerSetBpTimeout ∧ LeavesPending ownerSetFaultLimit ∧
      LeavesPending ownerSlotStatus ∧ LeavesPending ownerNoticeAck ∧ LeavesPending (ownerNoticeRead n) := by
  and_intros <;> intro ops s
  all_goals
    simp only [ownerCountersRead, ownerWindowStage, ownerWindowUnstage, ownerWindowLock, ownerWindowRead,
      ownerSetQuota, ownerSetDiscard, ownerSetBpTimeout, ownerSetFaultLimit, ownerSlotStatus, ownerNoticeAck,
      ownerNoticeRead]
    repeat' split
    all_goals rfl

/-! ### What a command does when it is taken leaves the queue of commands -/

/-- A full reset keeps the queue, which is no block's state (R1; log 19). -/
theorem takeFullReset_pending (cause : ResetCause) (s : State) : (takeFullReset cause s).pending = s.pending := by
  cases cause with
  | powerOn => rfl
  | resetInput asserted =>
    cases asserted with
    | false => rfl
    | true =>
      unfold takeFullReset
      dsimp only
      split <;> rfl

theorem takeLossOfSignal_pending (n : Link) (b : Bool) (s : State) :
    (takeLossOfSignal n b s).pending = s.pending := by
  unfold takeLossOfSignal
  split
  · exact State.linkReset_pending _ n
  · rfl

theorem takeAlertAssertion_pending (i : Fin 16) (b : Bool) (s : State) :
    (takeAlertAssertion i b s).pending = s.pending := by
  unfold takeAlertAssertion
  split
  · exact State.raise_pending _ _
  · rfl

theorem takeHello_pending (n : Link) (s : State) : (takeHello n s).pending = s.pending := by
  unfold takeHello
  split <;> simp

theorem takeFrameDrop_pending (n : Link) (f : RawFrame) (s : State) : (takeFrameDrop n f s).pending = s.pending := by
  unfold takeFrameDrop
  split
  · exact s.dropFrame_pending n _
  · rfl

theorem takeRead_pending (n : Link) (tag : Byte) (a : UpAddr) (len : Byte) (s : State) :
    (takeRead n tag a len s).pending = s.pending :=
  s.dispatch_pending n fun u => u.ticketedRequest_pending n tag .read a _ []

theorem takeWriteConfirmed_pending (n : Link) (tag : Byte) (a : UpAddr) (len : Byte) (data : List Byte) (s : State) :
    (takeWriteConfirmed n tag a len data s).pending = s.pending := by
  unfold takeWriteConfirmed
  split
  · exact s.dispatch_pending n fun u => u.ticketedRequest_pending n tag _ a _ data
  · exact s.dropFrame_pending n _

theorem takeWrite_pending (n : Link) (a : UpAddr) (len : Byte) (data : List Byte) (s : State) :
    (takeWrite n a len data s).pending = s.pending := by
  unfold takeWrite
  split
  · exact s.dispatch_pending n fun u => u.creditedWrite_pending n a _ data
  · exact s.dropFrame_pending n _

theorem takeClaim_pending (n : Link) (tag number gen : Byte) (s : State) :
    (takeClaim n tag number gen s).pending = s.pending := by
  refine s.dispatch_pending n fun u => ?_
  split
  · exact u.claimTicket_pending n tag _
  · rfl

theorem takeCancel_pending (n : Link) (tag number gen : Byte) (s : State) :
    (takeCancel n tag number gen s).pending = s.pending := by
  refine s.dispatch_pending n fun u => ?_
  split
  · exact u.cancelTicket_pending n tag _
  · rfl

theorem takeMgmtUnknown_pending (n : Link) (tag code : Byte) (s : State) :
    (takeMgmtUnknown n tag code s).pending = s.pending :=
  s.dispatch_pending n fun u => u.form_pending n _

/-- A management command leaves the queue where its owner's part does. -/
theorem State.manage_pending (s : State) (n : Link) (tag code : Byte) (count : Nat) (lease : Bool) (ops : List Byte)
    {owner : List Byte → State → MgmtAnswer} (h : LeavesPending owner) :
    (s.manage n tag code count lease ops owner).pending = s.pending :=
  s.dispatch_pending n fun u =>
    State.checked_keeps (·.pending = u.pending) u n tag code count lease ops owner
      (fun v m f hv => (v.form_pending m f).trans hv) rfl fun _ _ => h ops u

/-! ### Every command -/

section
variable {c : Instr} {n : Link} {f : Option RawFrame} {q : List Instr}

theorem keeps_pending_of_take {take : State → State} (hexec : ∀ s, exec c s = .next (take s))
    (h : ∀ s, (take s).pending = s.pending) : Keeps c (·.pending = q) :=
  keeps_of_take hexec fun s hs => (h s).trans hs

theorem IsEvent.keeps_pending {act : State → State} (hev : IsEvent c act) (h : ∀ s, (act s).pending = s.pending) :
    Keeps c (·.pending = q) :=
  hev.keeps fun s hs => (h s).trans hs

/-- An arrival leaves the queue where its taking does: a frame that waits is put to its receiver, not to the queue. -/
theorem Arrives.keeps_pending {take : State → State} (harr : Arrives c n f take)
    (h : ∀ s, (take s).pending = s.pending) : Keeps c (·.pending = q) :=
  keeps_pending_of_take harr fun s =>
    State.arrive_keeps (·.pending = s.pending) s n f take rfl (s.waitAtReceiver_pending n) (h s)

theorem Arrives.keeps_pending_of_owner {tag code : Byte} {count : Nat} {lease : Bool} {ops : List Byte}
    {owner : List Byte → State → MgmtAnswer} (harr : Arrives c n f (·.manage n tag code count lease ops owner))
    (h : LeavesPending owner) : Keeps c (·.pending = q) :=
  harr.keeps_pending fun s => s.manage_pending n tag code count lease ops h

end

theorem keeps_pending (c : Instr) (q : List Instr) : Keeps c (·.pending = q) := by
  cases hans : answersBackplane c with
  | true => exact fun s t hexec hs => (exec_answerOutcome c hans hexec).pending.trans hs
  | false =>
    obtain ⟨hread, hstage, hunstage, hlock, hwindow, hquota, hdiscard, htimeout, hlimit, hstatus, hack, _⟩ :=
      leavesPending_of_oneField .l0
    cases c with
    | phaseTimerExpiry | selectAccept | selectReject | selectWait | writeBeatAccept | writeBeatError | readBeatData
    | readBeatError => cases hans
    | fullReset cause => exact keeps_pending_of_take (fun _ => rfl) (takeFullReset_pending cause)
    | lossOfSignal n b => exact keeps_pending_of_take (fun _ => rfl) (takeLossOfSignal_pending n b)
    | alertAssertion i b => exact keeps_pending_of_take (fun _ => rfl) (takeAlertAssertion_pending i b)
    | hello n => exact Arrives.keeps_pending (fun _ => rfl) (takeHello_pending n)
    | frameDrop n f => exact Arrives.keeps_pending (fun _ => rfl) (takeFrameDrop_pending n f)
    | frameWaitsAtReceiver n f =>
      exact (frameWaitsAtReceiver_arrives n f).keeps_pending fun s => s.updPort_pending n _
    | read n tag a len => exact Arrives.keeps_pending (fun _ => rfl) (takeRead_pending n tag a len)
    | writeConfirmed n tag a len data =>
      exact Arrives.keeps_pending (fun _ => rfl) (takeWriteConfirmed_pending n tag a len data)
    | write n a len data => exact Arrives.keeps_pending (fun _ => rfl) (takeWrite_pending n a len data)
    | claim n tag number gen => exact Arrives.keeps_pending (fun _ => rfl) (takeClaim_pending n tag number gen)
    | cancel n tag number gen => exact Arrives.keeps_pending (fun _ => rfl) (takeCancel_pending n tag number gen)
    | mgmtUnknownCommand n tag code ops =>
      exact Arrives.keeps_pending (fun _ => rfl) (takeMgmtUnknown_pending n tag code)
    | leaseTake n tag ops => exact Arrives.keeps_pending_of_owner (fun _ => rfl) (ownerLeaseTake_leavesPending n)
    | leaseRenew n tag ops => exact Arrives.keeps_pending_of_owner (fun _ => rfl) ownerLeaseRenew_leavesPending
    | leaseDrop n tag ops => exact Arrives.keeps_pending_of_owner (fun _ => rfl) ownerLeaseDrop_leavesPending
    | identify n tag ops =>
      exact Arrives.keeps_pending_of_owner (owner := ownerIdentify n) (fun _ => rfl) fun _ _ => rfl
    | countersRead n tag ops => exact Arrives.keeps_pending_of_owner (fun _ => rfl) hread
    | countersClear n tag ops => exact Arrives.keeps_pending_of_owner (fun _ => rfl) ownerCountersClear_leavesPending
    | gateReset n tag ops => exact Arrives.keeps_pending_of_owner (fun _ => rfl) ownerGateReset_leavesPending
    | windowStage n tag ops => exact Arrives.keeps_pending_of_owner (fun _ => rfl) hstage
    | windowUnstageClear n tag ops => exact Arrives.keeps_pending_of_owner (fun _ => rfl) hunstage
    | windowUnstageWithdraw n tag ops => exact Arrives.keeps_pending_of_owner (fun _ => rfl) hunstage
    | windowCommit n tag ops => exact Arrives.keeps_pending_of_owner (fun _ => rfl) ownerWindowCommit_leavesPending
    | windowLock n tag ops => exact Arrives.keeps_pending_of_owner (fun _ => rfl) hlock
    | windowRead n tag ops => exact Arrives.keeps_pending_of_owner (fun _ => rfl) hwindow
    | setQuota n tag ops => exact Arrives.keeps_pending_of_owner (fun _ => rfl) hquota
    | setDiscard n tag ops => exact Arrives.keeps_pending_of_owner (fun _ => rfl) hdiscard
    | ticketSummary n tag ops =>
      exact Arrives.keeps_pending_of_owner (owner := ownerTicketSummary) (fun _ => rfl) fun _ _ => rfl
    | setBpTimeout n tag ops => exact Arrives.keeps_pending_of_owner (fun _ => rfl) htimeout
    | slotProbe n tag ops => exact Arrives.keeps_pending_of_owner (fun _ => rfl) ownerSlotProbe_leavesPending
    | slotFence n tag ops => exact Arrives.keeps_pending_of_owner (fun _ => rfl) ownerSlotFence_leavesPending
    | setFaultLimit n tag ops => exact Arrives.keeps_pending_of_owner (fun _ => rfl) hlimit
    | slotStatus n tag ops => exact Arrives.keeps_pending_of_owner (fun _ => rfl) hstatus
    | noticeEnable n tag ops =>
      exact Arrives.keeps_pending_of_owner (fun _ => rfl) (ownerNoticeEnable_leavesPending n)
    | noticeAck n tag ops => exact Arrives.keeps_pending_of_owner (fun _ => rfl) hack
    | noticeRead n tag ops =>
      obtain ⟨_, _, _, _, _, _, _, _, _, _, _, hnotice⟩ := leavesPending_of_oneField n
      exact Arrives.keeps_pending_of_owner (fun _ => rfl) hnotice
    | holdExpiry t =>
      refine IsEvent.keeps_pending (fun _ => rfl) fun s => ?_
      split
      · exact s.atTimerEnd_pending _ fun u => u.expireHold_pending t _ _
      · exact s.atTimerEnd_pending _ fun u => u.expireHold_pending t _ _
      · rfl
    | discardExpiry t =>
      refine IsEvent.keeps_pending (fun _ => rfl) fun s => ?_
      split
      · exact s.atTimerEnd_pending _ fun u => u.expireReady_pending t _
      · rfl
    | leaseExpiry =>
      refine IsEvent.keeps_pending (fun _ => rfl) fun s => ?_
      split
      · exact s.atTimerEnd_pending _ fun u => u.loseLease_pending _ _
      · rfl
    | arbiterGrant =>
      refine IsEvent.keeps_pending (fun _ => rfl) fun s => ?_
      split
      · exact s.grant_pending _
      · rfl
    | headDisposal n =>
      refine IsEvent.keeps_pending (fun _ => rfl) fun s => ?_
      split
      · split
        · split
          · rfl
          · exact s.disposeHead_pending n _ _ _
        · rfl
      · rfl
    | outboundFrameSent n => exact IsEvent.keeps_pending (fun _ => rfl) fun s => s.updPort_pending n _
    | transmissionBegins n => exact IsEvent.keeps_pending (fun _ => rfl) fun s => s.updPort_pending n _

/-- No arm of the dispatch ends in a fault or a refusal (NOTES.md, Stops). -/
theorem exec_next (c : Instr) (s : State) : ∃ t, exec c s = .next t := by
  cases c <;> exact ⟨_, rfl⟩

/-- Settles O3: every arm of the dispatch answers a next state, in which the queue is the one of the state before, since
no shared operation writes it. -/
theorem everyCommandHasANextState : Obligations.EveryCommandHasANextState := fun c s => by
  obtain ⟨t, hexec⟩ := exec_next c s
  exact ⟨t, hexec, keeps_pending c s.pending s t hexec rfl⟩

end Sys2Proof.Machine

/-! PROOF. The statements of 01_the_window_table.md: lookups and translation, the narrowing test, the window commands
with their checks, and the bytes of a record. Before the commands the two checks of a commit. -/

namespace Sys2Proof.Machine

/-! ### Lookups (R7) -/

theorem WindowRecord.covers_iff (r : WindowRecord) (a : UpAddr) :
    r.covers a = true ↔ r.base.toNat ≤ a.toNat ∧ a.toNat ≤ r.limit.toNat := by
  simp only [WindowRecord.covers, decide_eq_true_eq, BitVec.le_def]

theorem WindowRecord.overlaps_iff (r q : WindowRecord) :
    r.overlaps q = true ↔ r.base.toNat ≤ q.limit.toNat ∧ q.base.toNat ≤ r.limit.toNat := by
  simp only [WindowRecord.overlaps, decide_eq_true_eq, BitVec.le_def]

theorem active_of_lookup {active : Vector (Option WindowRecord) 32} {a : UpAddr} {i : Fin 32} {r : WindowRecord}
    (h : lookup active a = some (i, r)) : active[i] = some r ∧ r.covers a = true := by
  obtain ⟨j, _, hj⟩ := List.exists_of_findSome?_eq_some h
  split at hj
  · next q hq =>
    split at hj
    · next hcovers =>
      cases hj
      exact ⟨hq, hcovers⟩
    · cases hj
  · cases hj

theorem lookup_eq_none_iff (active : Vector (Option WindowRecord) 32) (a : UpAddr) :
    lookup active a = none ↔ ∀ (i : Fin 32) (r : WindowRecord), active[i] = some r → r.covers a = false := by
  unfold lookup
  rw [List.findSome?_eq_none_iff]
  constructor
  · intro h i r hr
    have hi := h i (List.mem_finRange i)
    simp only [hr] at hi
    simpa using hi
  · intro h i _
    split
    · next r hr => simp [h i r hr]
    · rfl

/-- Two ACTIVE entries that contain one address are one entry (R7, R20). -/
theorem WindowsDisjoint.index_eq {active : Vector (Option WindowRecord) 32} (hd : WindowsDisjoint active) {a : UpAddr}
    {i j : Fin 32} {r q : WindowRecord} (hr : active[i] = some r) (hq : active[j] = some q)
    (hra : r.covers a = true) (hqa : q.covers a = true) : i = j := by
  by_contra hne
  have hoverlap : r.overlaps q = true := by
    rw [r.covers_iff] at hra
    rw [q.covers_iff] at hqa
    rw [r.overlaps_iff q]
    omega
  rw [hd i j r q hne hr hq] at hoverlap
  cases hoverlap

theorem WindowsDisjoint.lookup_eq_some_iff {active : Vector (Option WindowRecord) 32} (hd : WindowsDisjoint active)
    (a : UpAddr) (i : Fin 32) (r : WindowRecord) :
    lookup active a = some (i, r) ↔ active[i] = some r ∧ r.covers a = true := by
  refine ⟨active_of_lookup, fun ⟨hr, hra⟩ => ?_⟩
  cases hl : lookup active a with
  | none => rw [(lookup_eq_none_iff active a).1 hl i r hr] at hra; cases hra
  | some found =>
    obtain ⟨j, q⟩ := found
    obtain ⟨hq, hqa⟩ := active_of_lookup hl
    obtain rfl := hd.index_eq hr hq hra hqa
    rw [hr] at hq
    cases hq
    rfl

/-- Settles O7: an entry whose range contains the address is found, and by law 1 it is the only one. -/
theorem lookupFindsTheOneCoveringWindow : Obligations.LookupFindsTheOneCoveringWindow := by
  intro active a hd
  refine ⟨fun i r => (hd.lookup_eq_some_iff a i r).trans (and_congr_right fun _ => r.covers_iff a), ?_⟩
  rw [lookup_eq_none_iff]
  refine forall_congr' fun i => forall_congr' fun r => imp_congr_right fun _ => ?_
  rw [← r.covers_iff a, Bool.not_eq_true]

/-! ### Translation (R8) -/

/-- What the validity of a record says of its numbers (R4). -/
theorem WindowRecord.valid_iff (r : WindowRecord) :
    r.valid = true ↔ r.base.toNat % 256 = 0 ∧ (r.limit.toNat + 1) % 256 = 0 ∧ r.base.toNat < r.limit.toNat ∧
      r.modBase.toNat % 256 = 0 ∧ r.modBase.toNat + (r.limit.toNat - r.base.toNat) ≤ 0xFFFFFF ∧
      holdInRange r.hold = true := by
  simp only [WindowRecord.valid, decide_eq_true_eq]

/-- The translation of an address of the window is the module base plus the offset, within the slot (R8). -/
theorem WindowRecord.toNat_translate {r : WindowRecord} (hvalid : r.valid = true) {a : UpAddr}
    (ha : r.covers a = true) : (r.translate a).toNat = r.modBase.toNat + (a.toNat - r.base.toNat) := by
  obtain ⟨_, _, _, _, hslot, _⟩ := r.valid_iff.1 hvalid
  obtain ⟨hlow, hhigh⟩ := (r.covers_iff a).1 ha
  have hoffset : (a - r.base).toNat = a.toNat - r.base.toNat := BitVec.toNat_sub_of_le (BitVec.le_def.2 hlow)
  simp only [WindowRecord.translate, BitVec.toNat_add, BitVec.toNat_setWidth, hoffset]
  omega

theorem toNat_lastByte {a : UpAddr} {len : Nat} (h : lengthInRow a len = true) :
    (lastByte a len).toNat = a.toNat + len - 1 := by
  have hend := end_le_of_lengthInRow a len h
  obtain ⟨hpos, hlen, _⟩ := (lengthInRow_iff a len).1 h
  have ha := a.isLt
  have hone : (1 : UpAddr).toNat = 1 := rfl
  simp only [lastByte, BitVec.toNat_sub, BitVec.toNat_add, BitVec.toNat_ofNat, hone]
  omega

/-- A request within a 64-byte row that starts in a valid window ends in it, as the window ends with a row (R4, R65). -/
theorem WindowRecord.covers_lastByte {r : WindowRecord} (hvalid : r.valid = true) {a : UpAddr} {len : Nat}
    (hrow : lengthInRow a len = true) (ha : r.covers a = true) : r.covers (lastByte a len) = true := by
  obtain ⟨_, hlimit, _⟩ := r.valid_iff.1 hvalid
  obtain ⟨hpos, _, hmod⟩ := (lengthInRow_iff a len).1 hrow
  rw [r.covers_iff] at ha ⊢
  rw [toNat_lastByte hrow]
  omega

/-- Settles O8: the last byte lies in the same window, which law 1 makes the one that a lookup finds. -/
theorem aRowRequestStaysInItsWindow : Obligations.ARowRequestStaysInItsWindow := by
  intro active a len i r hd hvalid hrow hlookup
  obtain ⟨hactive, ha⟩ := active_of_lookup hlookup
  obtain ⟨hbase, hlimit, _, hmod, hslot, _⟩ := r.valid_iff.1 hvalid
  obtain ⟨hpos, hlen, hrowEnd⟩ := (lengthInRow_iff a len).1 hrow
  obtain ⟨hlow, hhigh⟩ := (r.covers_iff a).1 ha
  have hlast := WindowRecord.covers_lastByte hvalid hrow ha
  refine ⟨(hd.lookup_eq_some_iff _ i r).2 ⟨hactive, hlast⟩, toNat_lastByte hrow, WindowRecord.toNat_translate hvalid ha,
    ?_, ?_⟩ <;> rw [WindowRecord.toNat_translate hvalid ha] <;> omega

/-! ### The narrowing test (R14) -/

theorem Rights.containedIn_iff (x y : Rights) :
    x.containedIn y = true ↔ ∀ p, x.permits p = true → y.permits p = true := by
  refine ⟨fun h p => ?_, fun h => ?_⟩
  · cases p <;> cases x <;> cases y <;> simp_all [Rights.containedIn, Rights.permits, Rights.permitsRead,
      Rights.permitsWrite]
  · have hread := h .read
    have hwrite := h .write
    cases x <;> cases y <;> simp_all [Rights.containedIn, Rights.permits, Rights.permitsRead, Rights.permitsWrite]

/-- The record lies inside another, with the same slot, width, hold, chaining and translation and no wider rights. -/
def WindowRecord.NarrowedFrom (new cur : WindowRecord) : Prop :=
  new.slot = cur.slot ∧ new.width = cur.width ∧ new.hold = cur.hold ∧ new.chaining = cur.chaining ∧
    cur.base.toNat ≤ new.base.toNat ∧ new.limit.toNat ≤ cur.limit.toNat ∧
    new.modBase.toNat = cur.modBase.toNat + (new.base.toNat - cur.base.toNat) ∧
    ∀ n p, (new.rights.get n).permits p = true → (cur.rights.get n).permits p = true

theorem narrows_some_iff (cur new : WindowRecord) : narrows (some cur) new = true ↔ new.NarrowedFrom cur := by
  have hrights : (new.rights.l0.containedIn cur.rights.l0 = true ∧ new.rights.l1.containedIn cur.rights.l1 = true) ↔
      ∀ n p, (new.rights.get n).permits p = true → (cur.rights.get n).permits p = true := by
    rw [Rights.containedIn_iff, Rights.containedIn_iff]
    refine ⟨fun ⟨h0, h1⟩ n => ?_, fun h => ⟨h .l0, h .l1⟩⟩
    cases n
    · exact h0
    · exact h1
  unfold WindowRecord.NarrowedFrom
  rw [← hrights]
  simp only [narrows, decide_eq_true_eq, BitVec.le_def]

/-- A record that passes keeps the translation of every address it contains (R8, R14). -/
theorem WindowRecord.NarrowedFrom.translate_eq {new cur : WindowRecord} (h : new.NarrowedFrom cur)
    (hcur : cur.valid = true) (hnew : new.valid = true) {a : UpAddr} (ha : new.covers a = true) :
    cur.covers a = true ∧ new.translate a = cur.translate a := by
  obtain ⟨_, _, _, _, hbase, hlimit, hmod, _⟩ := h
  have hrange := (new.covers_iff a).1 ha
  have hin : cur.covers a = true := (cur.covers_iff a).2 (by omega)
  refine ⟨hin, BitVec.eq_of_toNat_eq ?_⟩
  rw [WindowRecord.toNat_translate hnew ha, WindowRecord.toNat_translate hcur hin]
  omega

/-- Settles O10: the test is the table of R14, and its conditions keep the range, the translation and the rights. -/
theorem narrowingOnlyNarrows : Obligations.NarrowingOnlyNarrows := by
  refine ⟨fun _ => rfl, narrows_some_iff, fun cur new hcur hnew h => ?_⟩
  have hnarrow := (narrows_some_iff cur new).1 h
  have ⟨hslot, hwidth, hhold, hchaining, _, _, _, hrights⟩ := hnarrow
  exact ⟨hslot, hwidth, hhold, hchaining, fun _ ha => hnarrow.translate_eq hcur hnew ha, hrights⟩

/-! ### The two checks of a commit (R18) -/

theorem mem_windowIndices (i : Fin 32) : i ∈ windowIndices := List.mem_finRange i

/-- The lock check of an index (R18, R24). -/
theorem State.lockPasses_iff (s : State) (i : Fin 32) :
    s.lockPasses i = true ↔ s.staging[i] = .none ∨ s.locks[i] = .unlocked ∨
      s.locks[i] = .narrow ∧ (s.staging[i] = .clear ∨ ∃ r, s.staging[i] = .set r ∧ narrows s.active[i] r = true) := by
  unfold State.lockPasses State.stageAllowed
  cases s.staging[i] <;> cases s.locks[i] <;> simp

/-- The overlap check of an index (R18). -/
theorem State.overlapPasses_iff (s : State) (i : Fin 32) :
    s.overlapPasses i = true ↔ ∀ (j : Fin 32) (r q : WindowRecord), j ≠ i → s.resulting i = some r →
      s.resulting j = some q → r.overlaps q = false := by
  unfold State.overlapPasses
  cases hi : s.resulting i with
  | none => simp
  | some r =>
    simp only [List.all_eq_true, Bool.or_eq_true, decide_eq_true_eq]
    constructor
    · rintro h j _ q hj ⟨⟩ hq
      rcases h j (mem_windowIndices j) with hsame | hpass
      · exact absurd hsame hj
      · simpa [hq] using hpass
    · intro h j _
      by_cases hj : j = i
      · exact .inl hj
      · refine .inr ?_
        cases hq : s.resulting j with
        | none => rfl
        | some q => simp [h j r q hj rfl hq]

/-- The check that an index fails, the lock check first (R18). -/
def State.failureAt (s : State) (i : Fin 32) : Option Status :=
  if s.lockPasses i = false then some .locked else if s.overlapPasses i = false then some .overlap else none

theorem State.failureAt_eq_none_iff (s : State) (i : Fin 32) :
    s.failureAt i = none ↔ s.lockPasses i = true ∧ s.overlapPasses i = true := by
  unfold State.failureAt
  cases s.lockPasses i <;> cases s.overlapPasses i <;> simp

theorem State.commitFailure_eq (s : State) :
    s.commitFailure = windowIndices.findSome? fun i => (s.failureAt i).map (i, ·) := by
  unfold State.commitFailure
  refine congrArg (windowIndices.findSome? ·) (funext fun i => ?_)
  unfold State.failureAt
  split
  · rfl
  · split <;> rfl

theorem State.commitFailure_eq_none_iff (s : State) :
    s.commitFailure = none ↔ ∀ i, s.lockPasses i = true ∧ s.overlapPasses i = true := by
  rw [s.commitFailure_eq, List.findSome?_eq_none_iff]
  simp only [Option.map_eq_none_iff, s.failureAt_eq_none_iff]
  exact ⟨fun h i => h i (mem_windowIndices i), fun h i _ => h i⟩

/-- In a list in rising order, the first index with a value is the lowest one. -/
theorem findSome?_of_first {α : Type} {f : Fin 32 → Option α} {i : Fin 32} {x : α} (hi : f i = some x)
    (hbefore : ∀ j, j < i → f j = none) {l : List (Fin 32)} (hl : l.Pairwise (· < ·)) (hmem : i ∈ l) :
    l.findSome? f = some x := by
  induction l with
  | nil => cases hmem
  | cons j l ih =>
    rw [List.pairwise_cons] at hl
    obtain ⟨hj, hl⟩ := hl
    rcases List.mem_cons.1 hmem with rfl | hmem
    · rw [List.findSome?_cons, hi]
    · rw [List.findSome?_cons, hbefore j (hj i hmem)]
      exact ih hl hmem

/-- The failing index that a commit names is the first one in rising order (R18). -/
theorem State.commitFailure_of_first {s : State} {i : Fin 32} {why : Status} (hi : s.failureAt i = some why)
    (hbefore : ∀ j, j < i → s.lockPasses j = true ∧ s.overlapPasses j = true) : s.commitFailure = some (i, why) := by
  rw [s.commitFailure_eq]
  refine findSome?_of_first (by rw [hi]; rfl) (fun j hj => ?_) (List.pairwise_lt_finRange 32) (mem_windowIndices i)
  rw [(s.failureAt_eq_none_iff j).2 (hbefore j hj)]
  rfl

theorem State.stagedCount_eq_zero_iff (s : State) : s.stagedCount = 0 ↔ ∀ i : Fin 32, s.staging[i] = .none := by
  simp only [State.stagedCount, List.countP_eq_zero, decide_eq_true_eq, not_not]
  exact ⟨fun h i => h i (mem_windowIndices i), fun h i _ => h i⟩

/-! ### WINDOW_COMMIT -/

theorem Port.form_up (p : Port) (f : OutFrame) : (p.form f).up = p.up := by
  unfold Port.form
  split <;> rfl

theorem State.form_up (s : State) (n m : Link) (f : OutFrame) : ((s.form n f).port m).up = (s.port m).up := by
  rw [State.form_port]
  split
  · next h => rw [h, Port.form_up]
  · rfl

theorem State.report_up_eq (s : State) (n m : Link) (c : Nat) : ((s.report n c).port m).up = (s.port m).up := by
  rw [State.report_port]
  split
  · next h =>
    subst h
    unfold Port.report
    split
    · exact Port.form_up _ _
    · rfl
  · rfl

/-- The revocation pass takes no link down. -/
theorem State.revoke_up (s : State) (n : Link) : (s.revoke.port n).up = (s.port n).up :=
  State.revoke_keeps (fun s => (s.port n).up) (fun s m f => s.form_up m n f) (fun s m c => s.report_up_eq m n c)
    (fun _ _ => rfl) (fun _ _ => rfl) (fun _ _ => rfl) s

theorem State.counted_applyCommit (s : State) (n : Link) : (s.counted n).applyCommit = s.applyCommit.counted n := by
  have hresult : (s.counted n).resulting = s.resulting := rfl
  unfold State.applyCommit
  rw [hresult]
  rfl

section
variable {s : State} {n : Link} (tag : Byte) (hserves : s.serves n) (hlease : s.holdsLease n = true)
include hserves hlease

theorem exec_windowCommit_nothingStaged (revoke : Bool) (h : ∀ j : Fin 32, s.staging[j] = .none) :
    exec (.windowCommit n tag [flagByte revoke]) s = .next (s.replied n tag 0x12 .nothingStaged []) := by
  refine Arrives.exec_replied (fun _ => rfl) hserves rfl (fun _ => hlease) ?_
  have hnone : (s.counted n).stagedCount = 0 := (State.stagedCount_eq_zero_iff _).2 h
  simp only [ownerWindowCommit, flagOf_flagByte, hnone, if_true]
  rfl

theorem exec_windowCommit_fails (revoke : Bool) (hstaged : ∃ j : Fin 32, s.staging[j] ≠ .none) {i : Fin 32}
    {why : Status} (h : s.commitFailure = some (i, why)) :
    exec (.windowCommit n tag [flagByte revoke]) s = .next (s.replied n tag 0x12 why [byte i.val]) := by
  refine Arrives.exec_replied (fun _ => rfl) hserves rfl (fun _ => hlease) ?_
  have hcount : ¬(s.counted n).stagedCount = 0 := by
    rw [State.stagedCount_eq_zero_iff]
    exact fun hnone => hstaged.elim fun j hj => hj (hnone j)
  have hfails : (s.counted n).commitFailure = some (i, why) := h
  simp only [ownerWindowCommit, flagOf_flagByte, hcount, if_false, hfails]

theorem exec_windowCommit_applies (revoke : Bool) (hstaged : ∃ j : Fin 32, s.staging[j] ≠ .none)
    (h : ∀ j : Fin 32, s.lockPasses j = true ∧ s.overlapPasses j = true) :
    exec (.windowCommit n tag [flagByte revoke]) s = .next
      ((if revoke then (s.counted n).applyCommit.revoke else (s.counted n).applyCommit).sent n
        [.mgmtReply tag 0x12 .ok [byte s.stagedCount]]) := by
  have hcount : ¬(s.counted n).stagedCount = 0 := by
    rw [State.stagedCount_eq_zero_iff]
    exact fun hnone => hstaged.elim fun j hj => hj (hnone j)
  have hpass : (s.counted n).commitFailure = none := s.commitFailure_eq_none_iff.2 h
  refine Arrives.exec_sent (st := .ok) (rs := [byte s.stagedCount]) (fun _ => rfl) hserves rfl (fun _ => hlease) ?_ ?_
  · simp only [ownerWindowCommit, flagOf_flagByte, hcount, if_false, hpass]
    rfl
  · have hup : ((s.counted n).applyCommit.port n).up = true := by
      rw [State.applyCommit_port, State.counted_up]
      exact hserves.2
    split
    · exact (State.revoke_up _ n).trans hup
    · exact hup

theorem exec_windowCommit_applies_plain (hstaged : ∃ j : Fin 32, s.staging[j] ≠ .none)
    (h : ∀ j : Fin 32, s.lockPasses j = true ∧ s.overlapPasses j = true) :
    exec (.windowCommit n tag [0]) s =
      .next (s.applyCommit.replied n tag 0x12 .ok [byte s.stagedCount]) := by
  refine (exec_windowCommit_applies tag hserves hlease false hstaged h).trans ?_
  rw [if_neg (by decide), State.counted_applyCommit, State.counted_sent]
  rfl

end

/-- Settles O12: the two checks as the manual tables them, and the commit by the first index that fails one. -/
theorem windowCommitIsAllOrNothing : Obligations.WindowCommitIsAllOrNothing := by
  refine ⟨State.lockPasses_iff, fun s i => (s.overlapPasses_iff i).trans ?_, fun s n tag revoke hserves hlease => ?_⟩
  · refine forall_congr' fun j => forall_congr' fun r => forall_congr' fun q => imp_congr_right fun _ =>
      imp_congr_right fun _ => imp_congr_right fun _ => ?_
    rw [← Bool.not_eq_true, r.overlaps_iff q]
    omega
  · refine ⟨exec_windowCommit_nothingStaged tag hserves hlease revoke, fun hstaged =>
      ⟨fun i hbefore => ⟨fun hlock => ?_, fun hlock hoverlap => ?_⟩, fun hpass => ?_⟩⟩
    · exact exec_windowCommit_fails tag hserves hlease revoke hstaged
        (State.commitFailure_of_first (by simp [State.failureAt, hlock]) hbefore)
    · exact exec_windowCommit_fails tag hserves hlease revoke hstaged
        (State.commitFailure_of_first (by simp [State.failureAt, hlock, hoverlap]) hbefore)
    · exact exec_windowCommit_applies_plain tag hserves hlease hstaged hpass

/-! ### The bytes of a record (R204) -/

theorem be24_ofBe24 (b2 b1 b0 : Byte) : be24 (ofBe24 b2 b1 b0) = [b2, b1, b0] := by
  simp only [be24, ofBe24, List.cons.injEq, and_true]
  refine ⟨?_, ?_, ?_⟩ <;> ext i hi <;> grind

theorem ofBe24_extract (x : BitVec 24) :
    ofBe24 (x.extractLsb' 16 8) (x.extractLsb' 8 8) (x.extractLsb' 0 8) = x := by
  unfold ofBe24
  ext i hi
  grind

theorem ofBe32_extract (x : BitVec 32) :
    ofBe32 (x.extractLsb' 24 8) (x.extractLsb' 16 8) (x.extractLsb' 8 8) (x.extractLsb' 0 8) = x := by
  unfold ofBe32
  ext i hi
  grind

theorem byte_toNat (b : Byte) : byte b.toNat = b := BitVec.ofNat_toNat 8 b

theorem slotOf_eq_some_iff (b : Byte) (i : Fin 16) : slotOf b = some i ↔ b = byte i.val := by
  refine ⟨fun h => ?_, fun h => h ▸ slotOf_byte i⟩
  unfold slotOf at h
  split at h
  · cases h
    exact (byte_toNat b).symm
  · cases h

theorem rightsOf_eq_some_iff (b : Byte) (x : Rights) : rightsOf b = some x ↔ b = x.code := by
  refine ⟨fun h => ?_, fun h => h ▸ rightsOf_code x⟩
  unfold rightsOf at h
  split at h
  · next hb => cases h; exact hb
  split at h
  · next hb => cases h; exact hb
  split at h
  · next hb => cases h; exact hb
  split at h
  · next hb => cases h; exact hb
  · cases h

theorem widthOf_eq_some_iff (b : Byte) (w : Width) : widthOf b = some w ↔ b = byte w.toNat := by
  refine ⟨fun h => ?_, fun h => h ▸ widthOf_byte w⟩
  unfold widthOf at h
  split at h
  · next hb => cases h; exact hb
  split at h
  · next hb => cases h; exact hb
  split at h
  · next hb => cases h; exact hb
  · cases h

theorem flagOf_eq_some_iff (b : Byte) (x : Bool) : flagOf b = some x ↔ b = flagByte x := by
  refine ⟨fun h => ?_, fun h => h ▸ flagOf_flagByte x⟩
  unfold flagOf at h
  split at h
  · next hb => cases h; exact hb
  split at h
  · next hb => cases h; exact hb
  · cases h

/-- A hold byte names an absent hold or one in range, whose byte it is (R3, R204). -/
theorem holdOf_eq_some_iff (b : Byte) (x : Option Nat) :
    holdOf b = some x ↔ holdInRange x = true ∧ b = byte (x.getD 0) := by
  refine ⟨fun h => ?_, fun ⟨hrange, hb⟩ => hb ▸ holdOf_byte x hrange⟩
  unfold holdOf at h
  split at h
  · next hb => cases h; exact ⟨rfl, hb⟩
  · split at h
    · next hrange => cases h; exact ⟨by simpa [holdInRange] using hrange, (byte_toNat b).symm⟩
    · cases h

theorem recordOf_bytes {r : WindowRecord} (h : r.valid = true) : recordOf r.bytes = some r := by
  obtain ⟨_, _, _, _, _, hhold⟩ := r.valid_iff.1 h
  simp only [WindowRecord.bytes, be32, be24, List.cons_append, List.nil_append, recordOf, slotOf_byte, rightsOf_code,
    widthOf_byte, holdOf_byte _ hhold, flagOf_flagByte, ofBe32_extract, ofBe24_extract,
    Option.bind_eq_bind, Option.bind_some, h, if_true]

theorem valid_and_bytes_of_recordOf {bs : List Byte} {r : WindowRecord} (h : recordOf bs = some r) :
    r.valid = true ∧ bs = r.bytes := by
  unfold recordOf at h
  split at h
  · simp only [Option.bind_eq_bind, Option.bind_eq_some_iff, Option.ite_none_right_eq_some, Option.some.injEq,
      slotOf_eq_some_iff, rightsOf_eq_some_iff, widthOf_eq_some_iff, holdOf_eq_some_iff, flagOf_eq_some_iff] at h
    obtain ⟨slot, rfl, right0, rfl, right1, rfl, width, rfl, hold, ⟨_, rfl⟩, chaining, rfl, hvalid, rfl⟩ := h
    exact ⟨hvalid, by simp only [WindowRecord.bytes, be32_ofBe32, be24_ofBe24, List.cons_append, List.nil_append]⟩
  · cases h

/-- Settles O16: the bytes of a valid record give it back, and each byte that is read is the code of what it gives. -/
theorem windowRecordsReadBack : Obligations.WindowRecordsReadBack :=
  fun _ _ => ⟨valid_and_bytes_of_recordOf, fun ⟨hvalid, hbytes⟩ => hbytes ▸ recordOf_bytes hvalid⟩

/-! ### WINDOW_STAGE, WINDOW_UNSTAGE and WINDOW_LOCK at their owners -/

theorem ownerWindowStage_eq (s : State) (i : Fin 32) {r : WindowRecord} (h : r.valid = true) :
    ownerWindowStage (byte i.val :: r.bytes) s =
      if s.stageAllowed i r then (s.setCell i (.set r)).accept [] else s.refuse .locked := by
  simp only [ownerWindowStage, indexOf_byte, recordOf_bytes h]

section
variable {c : Instr} {s w : State} {n : Link} {tag code : Byte} {count : Nat} {lease : Bool} {ops : List Byte}
  {owner : List Byte → State → MgmtAnswer} {f : Option RawFrame}

/-- A served management command whose owner writes other fields than the ports: the state it leaves, with the frame
counted and the reply formed (R160, R162). -/
theorem Arrives.exec_written (harr : Arrives c n f (·.manage n tag code count lease ops owner)) (hserves : s.serves n)
    (hlen : ops.length = count) (hlease : lease = true → s.holdsLease n = true) {st : Status} {rs : List Byte}
    (hanswer : owner ops (s.counted n) = ⟨st, rs, w.counted n⟩) (hports : w.ports = s.ports) :
    exec c s = .next (w.replied n tag code st rs) := by
  have hup : ((w.counted n).port n).up = true := by
    rw [w.counted_up n n, State.port, hports]
    exact hserves.2
  rw [harr.exec_sent hserves hlen hlease hanswer hup, w.counted_sent n]
  rfl

end

section
variable {s : State} {n : Link} (tag : Byte) (hserves : s.serves n) (hlease : s.holdsLease n = true)
include hserves hlease

theorem exec_windowStage_eq (i : Fin 32) {r : WindowRecord} (h : r.valid = true) :
    exec (.windowStage n tag (byte i.val :: r.bytes)) s = .next
      (if s.stageAllowed i r then { s with staging := s.staging.set i (.set r) }.replied n tag 0x10 .ok []
        else s.replied n tag 0x10 .locked []) := by
  have howner := ownerWindowStage_eq (s.counted n) i h
  have hallowed : (s.counted n).stageAllowed i r = s.stageAllowed i r := rfl
  rw [hallowed] at howner
  split
  · next hpass =>
    rw [if_pos hpass] at howner
    exact Arrives.exec_written (fun _ => rfl) hserves rfl (fun _ => hlease) howner rfl
  · next hpass =>
    rw [if_neg hpass] at howner
    exact Arrives.exec_replied (fun _ => rfl) hserves rfl (fun _ => hlease) howner

theorem exec_windowUnstageClear_eq (i : Fin 32) :
    exec (.windowUnstageClear n tag [byte i.val, 1]) s = .next
      (if s.locks[i] = .frozen then s.replied n tag 0x11 .locked []
        else { s with staging := s.staging.set i .clear }.replied n tag 0x11 .ok []) := by
  have howner : ownerWindowUnstage [byte i.val, 1] (s.counted n) =
      if s.locks[i] = .frozen then (s.counted n).refuse .locked else ((s.counted n).setCell i .clear).accept [] := by
    simp only [ownerWindowUnstage, indexOf_byte]
    rfl
  split
  · next hfrozen =>
    rw [if_pos hfrozen] at howner
    exact Arrives.exec_replied (fun _ => rfl) hserves rfl (fun _ => hlease) howner
  · next hfrozen =>
    rw [if_neg hfrozen] at howner
    exact Arrives.exec_written (fun _ => rfl) hserves rfl (fun _ => hlease) howner rfl

theorem exec_windowUnstageWithdraw_eq (i : Fin 32) :
    exec (.windowUnstageWithdraw n tag [byte i.val, 0]) s =
      .next ({ s with staging := s.staging.set i .none }.replied n tag 0x11 .ok []) := by
  refine Arrives.exec_written (fun _ => rfl) hserves rfl (fun _ => hlease) ?_ rfl
  simp only [ownerWindowUnstage, indexOf_byte]
  rfl

theorem exec_windowLock_eq (i : Fin 32) (l : LockLevel) :
    exec (.windowLock n tag [byte i.val, byte l.rank]) s = .next
      (if l.rank < s.locks[i].rank then s.replied n tag 0x13 .locked [byte s.locks[i].rank]
        else { s with locks := s.locks.set i l }.replied n tag 0x13 .ok [byte l.rank]) := by
  have howner : ownerWindowLock [byte i.val, byte l.rank] (s.counted n) =
      if l.rank < s.locks[i].rank then ⟨.locked, [byte s.locks[i].rank], s.counted n⟩
      else ({ s.counted n with locks := s.locks.set i l } : State).accept [byte l.rank] := by
    simp only [ownerWindowLock, indexOf_byte, levelOf_rank]
    rfl
  split
  · next hlower =>
    rw [if_pos hlower] at howner
    exact Arrives.exec_replied (fun _ => rfl) hserves rfl (fun _ => hlease) howner
  · next hlower =>
    rw [if_neg hlower] at howner
    exact Arrives.exec_written (fun _ => rfl) hserves rfl (fun _ => hlease) howner rfl

end

/-- Settles O9: the staging test of R14 and R24 decides between the cell and the refusal. -/
theorem windowStageSetsTheCell : Obligations.WindowStageSetsTheCell := by
  intro s n tag i r hserves hlease hvalid
  rw [exec_windowStage_eq tag hserves hlease i hvalid]
  unfold State.stageAllowed
  cases s.locks[i] <;> rfl

/-- Settles O11: the clear flag stages an erasure, unless the index is frozen, and its absence withdraws the staging. -/
theorem windowUnstageClearsOrWithdraws : Obligations.WindowUnstageClearsOrWithdraws := by
  intro s n tag i hserves hlease
  have hclear := exec_windowUnstageClear_eq tag hserves hlease i
  refine ⟨fun hfrozen => ?_, fun hfrozen => ?_, exec_windowUnstageWithdraw_eq tag hserves hlease i⟩
  · rw [hclear, if_neg hfrozen]
  · rw [hclear, if_pos hfrozen]

/-- Settles O14: the comparison of the two levels decides. -/
theorem windowLockOnlyRises : Obligations.WindowLockOnlyRises := by
  intro s n tag i l hserves hlease
  have hlock := exec_windowLock_eq tag hserves hlease i l
  refine ⟨fun hrises => ?_, fun hfalls => ?_⟩
  · rw [hlock, if_neg (Nat.not_lt.2 hrises)]
  · rw [hlock, if_pos hfalls]

/-! ### The checks of the operands (R11, R175) -/

theorem ownerWindowStage_badIndex (s : State) {b : Byte} (rec : List Byte) (h : indexOf b = none) :
    ownerWindowStage (b :: rec) s = s.refuse .badIndex := by
  simp only [ownerWindowStage, h]

theorem ownerWindowStage_badRecord (s : State) {b : Byte} {i : Fin 32} {rec : List Byte} (h : indexOf b = some i)
    (hrec : recordOf rec = none) : ownerWindowStage (b :: rec) s = s.refuse .badRecord := by
  simp only [ownerWindowStage, h, hrec]

theorem ownerWindowUnstage_badIndex (s : State) {b : Byte} (f : Byte) (h : indexOf b = none) :
    ownerWindowUnstage [b, f] s = s.refuse .badIndex := by
  simp only [ownerWindowUnstage, h]

theorem ownerWindowUnstage_badValue (s : State) {b f : Byte} {i : Fin 32} (h : indexOf b = some i)
    (hf : flagOf f = none) : ownerWindowUnstage [b, f] s = s.refuse .badValue := by
  simp only [ownerWindowUnstage, h, hf]

theorem ownerWindowCommit_badValue (s : State) {f : Byte} (hf : flagOf f = none) :
    ownerWindowCommit [f] s = s.refuse .badValue := by
  simp only [ownerWindowCommit, hf]

theorem ownerWindowLock_badIndex (s : State) {b : Byte} (f : Byte) (h : indexOf b = none) :
    ownerWindowLock [b, f] s = s.refuse .badIndex := by
  simp only [ownerWindowLock, h]

theorem ownerWindowLock_badValue (s : State) {b f : Byte} {i : Fin 32} (h : indexOf b = some i)
    (hf : levelOf f = none) : ownerWindowLock [b, f] s = s.refuse .badValue := by
  simp only [ownerWindowLock, h, hf]

theorem ownerWindowRead_badIndex (s : State) {b : Byte} (f : Byte) (h : indexOf b = none) :
    ownerWindowRead [b, f] s = s.refuse .badIndex := by
  simp only [ownerWindowRead, h]

theorem ownerWindowRead_badValue (s : State) {b f : Byte} {i : Fin 32} (h : indexOf b = some i)
    (hf : flagOf f = none) : ownerWindowRead [b, f] s = s.refuse .badValue := by
  simp only [ownerWindowRead, h, hf]

/-- Settles O15: each check by the owner's part, the index before the value. -/
theorem windowOperandChecks : Obligations.WindowOperandChecks := by
  intro s n tag b f rec hserves hlease
  refine ⟨fun hb hlen => ?_, fun hb hlen hrec => ?_, fun hb => ?_, fun hb => ?_, fun hb hf => ?_, fun hf => ?_,
    fun hb => ?_, fun hb hf => ?_, fun hb => ?_, fun hb hf => ?_⟩
  · exact Arrives.exec_replied (fun _ => rfl) hserves (congrArg (· + 1) hlen) (fun _ => hlease)
      (ownerWindowStage_badIndex _ rec (indexOf_none b hb))
  · obtain ⟨i, hi⟩ := indexOf_some b hb
    exact Arrives.exec_replied (fun _ => rfl) hserves (congrArg (· + 1) hlen) (fun _ => hlease)
      (ownerWindowStage_badRecord _ hi hrec)
  · exact Arrives.exec_replied (fun _ => rfl) hserves rfl (fun _ => hlease)
      (ownerWindowUnstage_badIndex _ 1 (indexOf_none b hb))
  · exact Arrives.exec_replied (fun _ => rfl) hserves rfl (fun _ => hlease)
      (ownerWindowUnstage_badIndex _ f (indexOf_none b hb))
  · obtain ⟨i, hi⟩ := indexOf_some b hb
    exact Arrives.exec_replied (fun _ => rfl) hserves rfl (fun _ => hlease)
      (ownerWindowUnstage_badValue _ hi (flagOf_none f hf))
  · exact Arrives.exec_replied (fun _ => rfl) hserves rfl (fun _ => hlease)
      (ownerWindowCommit_badValue _ (flagOf_none f hf))
  · exact Arrives.exec_replied (fun _ => rfl) hserves rfl (fun _ => hlease)
      (ownerWindowLock_badIndex _ f (indexOf_none b hb))
  · obtain ⟨i, hi⟩ := indexOf_some b hb
    exact Arrives.exec_replied (fun _ => rfl) hserves rfl (fun _ => hlease)
      (ownerWindowLock_badValue _ hi (levelOf_none f hf))
  · exact Arrives.exec_replied (lease := false) (fun _ => rfl) hserves rfl nofun
      (ownerWindowRead_badIndex _ f (indexOf_none b hb))
  · obtain ⟨i, hi⟩ := indexOf_some b hb
    exact Arrives.exec_replied (lease := false) (fun _ => rfl) hserves rfl nofun
      (ownerWindowRead_badValue _ hi (flagOf_none f hf))

end Sys2Proof.Machine

/-! PROOF. What every command does to the tables, the tickets and the notices, and from it the laws that every step
keeps: of windows and their locks, of records, the lease, the notices and the timers, and of tickets. Before them two
parts of the state: the books, with the ledger that the laws of windows and tickets read, and the acts, which say once
what a command can do to the books. -/

namespace Sys2Proof.Machine

/-! ### The parts of the state that the laws read -/

/-- What the laws of windows, tickets and timers read of a state. -/
structure Ledger where
  now : Nat
  resetPin : Bool
  active : Vector (Option WindowRecord) 32
  staging : Vector StagingCell 32
  locks : Vector LockLevel 32
  lease : Option Lease
  tickets : Vector Ticket 24
  queues : PerLink (List WorkEntry)
  discard : DiscardSelection
  bpc : BpcState

def State.ledger (s : State) : Ledger :=
  ⟨s.now, s.resetPin, s.active, s.staging, s.locks, s.lease, s.tickets, s.queues, s.discard, s.bpc⟩

/-- The ledger and the kind records. -/
def State.books (s : State) : Ledger × Vector KindRecord 8 := (s.ledger, s.kinds)

/-- A state with a given ledger, and the rest of it as after reset. -/
def Ledger.state (a : Ledger) : State :=
  { State.reset with
    now := a.now, resetPin := a.resetPin, active := a.active, staging := a.staging, locks := a.locks, lease := a.lease,
    tickets := a.tickets, queues := a.queues, discard := a.discard, bpc := a.bpc }

/-- What reads the same in the state that a ledger gives depends on the ledger alone. -/
theorem State.read_of_ledger {α : Type} {s t : State} (h : t.ledger = s.ledger) (g : State → α)
    (hg : ∀ u : State, g u.ledger.state = g u := by intros; rfl) : g t = g s := by
  rw [← hg t, ← hg s, h]

theorem State.ledger_of_books {s t : State} (h : t.books = s.books) : t.ledger = s.ledger := congrArg Prod.fst h

theorem State.kinds_of_books {s t : State} (h : t.books = s.books) : t.kinds = s.kinds := congrArg Prod.snd h

/-! ### Shared operations that leave the books or the ledger -/

theorem State.updPort_books (s : State) (n : Link) (f : Port → Port) : (s.updPort n f).books = s.books := rfl

theorem State.updAdm_books (s : State) (n : Link) (f : AdmCounters → AdmCounters) :
    (s.updAdm n f).books = s.books := rfl

theorem State.form_books (s : State) (n : Link) (f : OutFrame) : (s.form n f).books = s.books := rfl

theorem State.report_books (s : State) (n : Link) (c : Nat) : (s.report n c).books = s.books := rfl

theorem State.waitAtReceiver_books (s : State) (n : Link) (f : RawFrame) : (s.waitAtReceiver n f).books = s.books :=
  State.waitAtReceiver_keeps State.books (fun _ _ => rfl) (fun _ _ => rfl) s n f

theorem State.clearCounters_books (s : State) (g : CounterGroup) : (s.clearCounters g).books = s.books := by
  cases g <;> rfl

theorem State.raise_ledger (s : State) (d : Detail) : (s.raise d).ledger = s.ledger :=
  State.raise_keeps State.ledger (fun _ _ _ => rfl) (fun _ _ => rfl) s d

theorem State.loseLease_ledger (s : State) (l : Lease) (e : LeaseEvent) :
    (s.loseLease l e).ledger = { s.ledger with lease := none, staging := .replicate 32 .none } :=
  State.raise_ledger _ _

theorem State.emitAll_ledger (s : State) (n : Link) : (s.emitAll n).ledger = s.ledger :=
  State.emitAll_keeps State.ledger (fun _ _ _ => rfl) (fun _ _ => rfl) s n

theorem State.bringUp_ledger (s : State) (n : Link) : (s.bringUp n).ledger = s.ledger :=
  State.emitAll_ledger _ n

theorem State.reportFailure_ledger (s : State) (i : Fin 16) (f : Failure) (posted : Bool) :
    (s.reportFailure i f posted).ledger = s.ledger :=
  State.reportFailure_keeps State.ledger (fun _ _ => rfl) (fun _ _ _ => rfl) (fun _ _ => rfl) s i f posted

theorem State.probeResult_ledger (s : State) (i : Fin 16) (x : Option (BitVec 32)) :
    (s.probeResult i x).ledger = s.ledger :=
  State.probeResult_keeps State.ledger (fun _ _ => rfl) (fun _ _ _ => rfl) (fun _ _ => rfl) s i x

theorem State.acceptedReport_books (s : State) (op : Operation) : (s.acceptedReport op).books = s.books :=
  State.acceptedReport_keeps State.books (fun _ _ => rfl) s op

theorem State.resetProbes_ledger (s : State) : s.resetProbes.ledger = s.ledger :=
  State.resetProbes_keeps State.ledger (fun _ _ => rfl) (fun _ _ => rfl) (fun _ _ _ => rfl) (fun _ _ => rfl) s

/-! ### The acts -/

/-- The timers that end no earlier than a point in time (log 4). -/
def State.firstAt (s : State) (e : Nat) : Prop := ∀ x ∈ s.timerEnds, e ≤ x

/-- Everything that a command other than FULL_RESET can do, up to what leaves the books. -/
inductive State.Act (s : State) : State → Prop where
  | quiet {t : State} (h : t.books = s.books) : s.Act t
  | raises (d : Detail) : s.Act (s.raise d)
  | emits (n : Link) : s.Act (s.emitAll n)
  | acks (k : NoticeKind) : s.Act (s.updKind k fun _ => .reset)
  | resets (n : Link) : s.Act (s.linkReset n)
  | restarts (n : Link) : s.Act ((s.linkReset n).bringUp n)
  | admits (t : Fin 24) (r : Request) (data : List Byte) (hold : Option Nat) (h : s.lowestFree = some t) :
    s.Act (s.allocate t r data hold)
  | joins (n : Link) (e : PostedEntry) : s.Act (s.setQueue n (s.queue n ++ [.posted e]))
  | claims (t : Fin 24) (r : Request) (res : Result) (d : Option Nat) (h : (s.ticket t).st = .ready r res d) :
    s.Act (s.freeTicket t)
  | cancels (t : Fin 24) (r : Request) (d : List Byte) (h : (s.ticket t).st = .queued r d .deferred) :
    s.Act ((s.dropEntry r.owner t).freeTicket t)
  | detaches (t : Fin 24) (r : Request) (d : List Byte) (h : (s.ticket t).st = .issued r d .deferred) :
    s.Act (s.setTicketState t (.detached r))
  | holdEnds (t : Fin 24) (r : Request) (st : TicketState) (e : Nat) (hfirst : s.firstAt e)
    (h : ∃ d, (s.ticket t).st = .queued r d (.direct e) ∧ st = .queued r d .deferred ∨
      (s.ticket t).st = .issued r d (.direct e) ∧ st = .issued r d .deferred) :
    s.Act ((s.toward e).expireHold t r st)
  | discards (t : Fin 24) (r : Request) (res : Result) (e : Nat) (hfirst : s.firstAt e)
    (h : (s.ticket t).st = .ready r res (some e)) : s.Act ((s.toward e).expireReady t r)
  | leaseEnds (l : Lease) (hfirst : s.firstAt l.expiry) (h : s.lease = some l) :
    s.Act ((s.toward l.expiry).loseLease l .expired)
  | dropsLease (l : Lease) (h : s.lease = some l) : s.Act (s.loseLease l .dropped)
  | holdsLease (n : Link) (d : Byte) : s.Act (s.hold n d)
  | takesLease (n : Link) (d : Byte) : s.Act ((s.hold n d).raise (.leaseChange .taken n d))
  | stages (i : Fin 32) (c : StagingCell) (hlease : s.lease ≠ none) (hvalid : ∀ r, c = .set r → r.valid = true) :
    s.Act (s.setCell i c)
  | commits (h : s.commitFailure = none) : s.Act s.applyCommit
  | revokes (h : s.commitFailure = none) : s.Act s.applyCommit.revoke
  | locks (i : Fin 32) (l : LockLevel) (h : s.locks[i].rank ≤ l.rank) : s.Act { s with locks := s.locks.set i l }
  | selects (d : DiscardSelection) : s.Act { s with discard := d }
  | answers {t : State} (h : s.AnswerOutcome t) (hnow : t.now = s.now) : s.Act t
  | timesOut (op : Operation) (e : Nat) (hfirst : s.firstAt e) (h : s.bpc.operation? = some op) :
    s.Act ((s.toward e).endFailed op .timeout)
  | grantsQueue (n : Link) (hidle : s.bpc = .idle) : s.Act (s.grantQueue n)
  | grantsProbe (hidle : s.bpc = .idle) : s.Act s.grantProbe
  | disposes (n : Link) (e : WorkEntry) (rest : List WorkEntry) (i : Fin 16) (hq : s.queue n = e :: rest)
    (hslot : s.entrySlot e = some i) : s.Act (s.disposeHead n e rest i)
  | clears : s.Act s.gateReset

/-- The books of one state come from those of another by one act. -/
def State.Acts (s t : State) : Prop := ∃ u v : State, u.books = s.books ∧ u.Act v ∧ t.books = v.books

theorem State.Act.acts {s t : State} (h : s.Act t) : s.Acts t := ⟨s, t, rfl, h, rfl⟩

theorem State.acts_of_books {s t : State} (h : t.books = s.books) : s.Acts t := (State.Act.quiet h).acts

theorem State.Acts.before {s u t : State} (h : u.Acts t) (hbooks : u.books = s.books) : s.Acts t := by
  obtain ⟨v, w, hv, hact, hw⟩ := h
  exact ⟨v, w, hv.trans hbooks, hact, hw⟩

theorem State.Acts.after {s u t : State} (h : s.Acts u) (hbooks : t.books = u.books) : s.Acts t := by
  obtain ⟨v, w, hv, hact, hw⟩ := h
  exact ⟨v, w, hv, hact, hbooks.trans hw⟩

/-! ### The acts of frames -/

theorem State.atTimerEnd_acts (s : State) (e : Nat) (f : State → State) (h : s.firstAt e → s.Act (f (s.toward e))) :
    s.Acts (s.atTimerEnd e f) :=
  State.atTimerEnd_keeps_prop s.Acts s e f (State.acts_of_books rfl) fun hfirst => (h hfirst).acts

theorem State.dispatch_acts (s : State) (n : Link) {act : State → State} (h : ∀ u : State, u.Acts (act u)) :
    s.Acts (s.dispatch n act) :=
  State.dispatch_keeps s.Acts s n act (State.acts_of_books rfl) ((h _).before rfl)

theorem State.dropFrame_acts (s : State) (n : Link) (why : DropReason) : s.Acts (s.dropFrame n why) :=
  (State.Act.raises _).acts.before (s.updPort_books n _)

theorem State.refuseBusy_acts (s : State) (n : Link) (tag : Byte) (a : UpAddr) (c : BusyCause) :
    s.Acts (s.refuseBusy n tag a c) := by
  unfold State.refuseBusy
  exact (State.Act.raises _).acts.before rfl

theorem State.dropPosted_acts (s : State) (n : Link) (a : UpAddr) (why : FailReason) :
    s.Acts (s.dropPosted n a why) := by
  unfold State.dropPosted
  exact ((State.Act.raises _).acts.before (s.updAdm_books n _)).after (State.report_books _ n 1)

theorem State.ticketedRequest_acts (s : State) (n : Link) (tag : Byte) (op : TicketOp) (a : UpAddr) (len : Nat)
    (data : List Byte) : s.Acts (s.ticketedRequest n tag op a len data) := by
  unfold State.ticketedRequest
  split
  · exact State.acts_of_books (s.form_books n _)
  · unfold State.admitTicketed
    split
    · exact s.refuseBusy_acts _ _ _ _
    · split
      · exact s.refuseBusy_acts _ _ _ _
      · split
        · exact s.refuseBusy_acts _ _ _ _
        · next hfree => exact (State.Act.admits _ _ data _ hfree).acts

theorem State.creditedWrite_acts (s : State) (n : Link) (a : UpAddr) (len : Nat) (data : List Byte) :
    s.Acts (s.creditedWrite n a len data) := by
  unfold State.creditedWrite
  split
  · exact (State.Act.raises _).acts.before (s.updPort_books n _)
  · unfold State.postedRequest
    split
    · exact (State.dropPosted_acts _ n a _).before (s.updPort_books n _)
    · exact (State.Act.joins n _).acts.before (s.updPort_books n _)

theorem State.claimTicket_acts (s : State) (n : Link) (tag : Byte) (t : Fin 24) : s.Acts (s.claimTicket n tag t) := by
  unfold State.claimTicket
  split
  case h_1 h =>
    split
    · exact (State.Act.claims (s := s.form _ _) t _ _ _ h).acts.before rfl
    · exact State.acts_of_books rfl
  case h_2 | h_3 => split <;> exact State.acts_of_books rfl
  all_goals exact State.acts_of_books rfl

theorem State.cancelTicket_acts (s : State) (n : Link) (tag : Byte) (t : Fin 24) :
    s.Acts (s.cancelTicket n tag t) := by
  unfold State.cancelTicket
  split
  case h_1 h =>
    split
    · next howner =>
      subst howner
      exact (State.Act.cancels t _ _ h).acts.after (State.form_books _ _ _)
    · exact State.acts_of_books rfl
  case h_2 h =>
    split
    · exact (State.Act.detaches t _ _ h).acts.after (State.form_books _ _ _)
    · exact State.acts_of_books rfl
  case h_3 h =>
    split
    · exact (State.Act.claims t _ _ _ h).acts.after (State.form_books _ _ _)
    · exact State.acts_of_books rfl
  all_goals exact State.acts_of_books rfl

/-! ### The acts of commands -/

theorem takeWrite_acts (n : Link) (a : UpAddr) (len : Byte) (data : List Byte) (s : State) :
    s.Acts (takeWrite n a len data s) := by
  unfold takeWrite
  split
  · exact s.dispatch_acts n fun u => u.creditedWrite_acts n a _ data
  · exact s.dropFrame_acts n _

theorem takeWriteConfirmed_acts (n : Link) (tag : Byte) (a : UpAddr) (len : Byte) (data : List Byte) (s : State) :
    s.Acts (takeWriteConfirmed n tag a len data s) := by
  unfold takeWriteConfirmed
  split
  · exact s.dispatch_acts n fun u => u.ticketedRequest_acts n tag _ a _ data
  · exact s.dropFrame_acts n _

theorem takeClaim_acts (n : Link) (tag number gen : Byte) (s : State) : s.Acts (takeClaim n tag number gen s) := by
  refine s.dispatch_acts n fun u => ?_
  split
  · exact u.claimTicket_acts n tag _
  · exact State.acts_of_books rfl

theorem takeCancel_acts (n : Link) (tag number gen : Byte) (s : State) : s.Acts (takeCancel n tag number gen s) := by
  refine s.dispatch_acts n fun u => ?_
  split
  · exact u.cancelTicket_acts n tag _
  · exact State.acts_of_books rfl

theorem takeHello_acts (n : Link) (s : State) : s.Acts (takeHello n s) := by
  unfold takeHello
  split
  · exact (State.Act.restarts n).acts.before rfl
  · exact (State.Act.emits n).acts.before rfl

theorem takeLossOfSignal_acts (n : Link) (b : Bool) (s : State) : s.Acts (takeLossOfSignal n b s) := by
  unfold takeLossOfSignal
  split
  · exact (State.Act.resets n).acts.before rfl
  · exact State.acts_of_books rfl

theorem takeFrameDrop_acts (n : Link) (f : RawFrame) (s : State) : s.Acts (takeFrameDrop n f s) := by
  unfold takeFrameDrop
  split
  · exact s.dropFrame_acts n _
  · exact State.acts_of_books rfl

theorem takeAlertAssertion_acts (i : Fin 16) (b : Bool) (s : State) : s.Acts (takeAlertAssertion i b s) := by
  unfold takeAlertAssertion
  split
  · exact (State.Act.raises _).acts.before rfl
  · exact State.acts_of_books rfl

/-- A grant moves the arbiter's pointer, and takes the head of its source (R90). -/
theorem State.grant_acts (s : State) (hidle : s.bpc = .idle) (src : Source) : s.Acts (s.grant src) := by
  refine State.Acts.before (u := { s with pointer := src.next }) ?_ rfl
  have hidle' : ({ s with pointer := src.next } : State).bpc = .idle := hidle
  cases src with
  | wq0 => exact (State.Act.grantsQueue .l0 hidle').acts
  | wq1 => exact (State.Act.grantsQueue .l1 hidle').acts
  | prq => exact (State.Act.grantsProbe hidle').acts

/-! ### The acts of the owners of management commands -/

/-- The owner's part of a management command is one act, at a gate whose lease is HELD where the command needs it. -/
def OwnerActs (lease : Bool) (owner : List Byte → State → MgmtAnswer) : Prop :=
  ∀ (ops : List Byte) (s : State), (lease = true → s.lease ≠ none) → s.Acts (owner ops s).state

theorem ownerLeaseTake_acts (n : Link) : OwnerActs false (ownerLeaseTake n) := by
  intro ops s _
  unfold ownerLeaseTake
  split
  · split
    · exact State.acts_of_books rfl
    · split
      · exact (State.Act.takesLease n _).acts
      · split
        · exact (State.Act.holdsLease n _).acts
        · exact State.acts_of_books rfl
  · exact State.acts_of_books rfl

theorem ownerLeaseRenew_acts : OwnerActs true ownerLeaseRenew := by
  intro ops s _
  unfold ownerLeaseRenew
  split
  · exact (State.Act.holdsLease _ _).acts
  · exact State.acts_of_books rfl

theorem ownerLeaseDrop_acts : OwnerActs true ownerLeaseDrop := by
  intro ops s _
  unfold ownerLeaseDrop
  split
  · next h => exact (State.Act.dropsLease _ h).acts
  · exact State.acts_of_books rfl

theorem ownerCountersClear_acts : OwnerActs true ownerCountersClear := by
  intro ops s _
  unfold ownerCountersClear
  split
  · split
    · exact State.acts_of_books (s.clearCounters_books _)
    · exact State.acts_of_books rfl
  · exact State.acts_of_books rfl

theorem recordOf_valid {bs : List Byte} {r : WindowRecord} (h : recordOf bs = some r) : r.valid = true := by
  unfold recordOf at h
  split at h
  · simp only [Option.bind_eq_bind, Option.bind_eq_some_iff] at h
    obtain ⟨_, _, _, _, _, _, _, _, _, _, _, _, h⟩ := h
    split at h
    · next hvalid => cases h; exact hvalid
    · cases h
  · cases h

theorem ownerWindowStage_acts : OwnerActs true ownerWindowStage := by
  intro ops s hlease
  unfold ownerWindowStage
  split
  · split
    · exact State.acts_of_books rfl
    · split
      · exact State.acts_of_books rfl
      · next hrec =>
        split
        · refine (State.Act.stages _ _ (hlease rfl) fun q hq => ?_).acts
          cases hq
          exact recordOf_valid hrec
        · exact State.acts_of_books rfl
  · exact State.acts_of_books rfl

theorem ownerWindowUnstage_acts : OwnerActs true ownerWindowUnstage := by
  intro ops s hlease
  unfold ownerWindowUnstage
  split
  · split
    · exact State.acts_of_books rfl
    · split
      · exact State.acts_of_books rfl
      · split
        · exact State.acts_of_books rfl
        · exact (State.Act.stages _ .clear (hlease rfl) nofun).acts
      · exact (State.Act.stages _ .none (hlease rfl) nofun).acts
  · exact State.acts_of_books rfl

theorem ownerWindowCommit_acts : OwnerActs true ownerWindowCommit := by
  intro ops s _
  unfold ownerWindowCommit
  split
  · split
    · exact State.acts_of_books rfl
    · split
      · exact State.acts_of_books rfl
      · split
        · exact State.acts_of_books rfl
        · next hpass =>
          rw [State.accept_state]
          split
          · exact (State.Act.revokes hpass).acts
          · exact (State.Act.commits hpass).acts
  · exact State.acts_of_books rfl

theorem ownerWindowLock_acts : OwnerActs true ownerWindowLock := by
  intro ops s _
  unfold ownerWindowLock
  split
  · split
    · exact State.acts_of_books rfl
    · split
      · exact State.acts_of_books rfl
      · split
        · exact State.acts_of_books rfl
        · next hrank => exact (State.Act.locks _ _ (Nat.le_of_not_lt hrank)).acts
  · exact State.acts_of_books rfl

theorem ownerSetDiscard_acts : OwnerActs true ownerSetDiscard := by
  intro ops s _
  unfold ownerSetDiscard
  split
  · split
    · exact (State.Act.selects _).acts
    · exact State.acts_of_books rfl
  · exact State.acts_of_books rfl

theorem ownerSlotProbe_acts : OwnerActs true ownerSlotProbe := by
  intro ops s _
  unfold ownerSlotProbe
  split
  · split
    · exact State.acts_of_books rfl
    · split
      · exact State.acts_of_books rfl
      · exact (State.Act.raises _).acts.before rfl
  · exact State.acts_of_books rfl

theorem ownerSlotFence_acts : OwnerActs true ownerSlotFence := by
  intro ops s _
  unfold ownerSlotFence
  split
  · split
    · exact State.acts_of_books rfl
    · rw [State.accept_state]
      unfold State.fence
      split
      · exact State.acts_of_books rfl
      all_goals exact (State.Act.raises _).acts.before rfl
  · exact State.acts_of_books rfl

theorem ownerNoticeEnable_acts (n : Link) : OwnerActs false (ownerNoticeEnable n) := by
  intro ops s _
  unfold ownerNoticeEnable
  split
  · rw [State.accept_state]
    exact (State.Act.emits n).acts.before (s.updPort_books n _)
  · exact State.acts_of_books rfl

theorem ownerNoticeAck_acts : OwnerActs false ownerNoticeAck := by
  intro ops s _
  unfold ownerNoticeAck
  split
  · split
    · exact State.acts_of_books rfl
    · split
      · exact State.acts_of_books rfl
      · exact (State.Act.acks _).acts
  · exact State.acts_of_books rfl

/-- The owners that refuse, answer, or write one setting that the books do not hold. -/
theorem ownerActs_of_setting (lease : Bool) (n : Link) :
    OwnerActs lease ownerCountersRead ∧ OwnerActs lease ownerWindowRead ∧ OwnerActs lease ownerSetQuota ∧
      OwnerActs lease ownerSetBpTimeout ∧ OwnerActs lease ownerSetFaultLimit ∧ OwnerActs lease ownerSlotStatus ∧
      OwnerActs lease (ownerNoticeRead n) := by
  and_intros <;> intro ops s _ <;> apply State.acts_of_books
  all_goals
    simp only [ownerCountersRead, ownerWindowRead, ownerSetQuota, ownerSetBpTimeout, ownerSetFaultLimit,
      ownerSlotStatus, ownerNoticeRead]
    repeat' split
    all_goals rfl

/-! ### Every command -/

section
variable {c : Instr} {n : Link} {f : Option RawFrame} {s t : State}

theorem acts_of_take {take : State → State} (hexec : ∀ s, exec c s = .next (take s)) (h : ∀ s : State, s.Acts (take s))
    (hnext : exec c s = .next t) : s.Acts t := by
  rw [hexec s] at hnext
  cases hnext
  exact h s

theorem IsEvent.acts {act : State → State} (hev : IsEvent c act) (h : ∀ s : State, s.Acts (act s))
    (hnext : exec c s = .next t) : s.Acts t :=
  acts_of_take hev (fun s => State.unlessReset_keeps s.Acts s act (State.acts_of_books rfl) fun _ => h s) hnext

theorem Arrives.acts {take : State → State} (harr : Arrives c n f take) (h : ∀ s : State, s.Acts (take s))
    (hnext : exec c s = .next t) : s.Acts t :=
  acts_of_take harr
    (fun s => State.arrive_keeps s.Acts s n f take (State.acts_of_books rfl)
      (fun g => State.acts_of_books (s.waitAtReceiver_books n g)) (h s)) hnext

theorem State.lease_of_holdsLease {n : Link} (h : s.holdsLease n = true) : s.lease ≠ none := by
  intro hnone
  simp [State.holdsLease, hnone] at h

/-- A management command acts as its owner does (R159, R160). -/
theorem Arrives.acts_of_owner {tag code : Byte} {count : Nat} {lease : Bool} {ops : List Byte}
    {owner : List Byte → State → MgmtAnswer} (harr : Arrives c n f (·.manage n tag code count lease ops owner))
    (h : OwnerActs lease owner) (hnext : exec c s = .next t) : s.Acts t :=
  harr.acts (fun s => s.dispatch_acts n fun u =>
    State.checked_keeps u.Acts u n tag code count lease ops owner (fun v m f hv => hv.after (v.form_books m f))
      (State.acts_of_books rfl) fun _ hl => h ops u fun hlease => State.lease_of_holdsLease (hl hlease)) hnext

/-- An answer on the backplane other than the expiry of the phase timer takes no time. -/
theorem answer_now (hans : answersBackplane c = true) (hc : c ≠ .phaseTimerExpiry) (hnext : exec c s = .next t) :
    t.now = s.now := by
  have hkeep {act : State → State} (hev : IsEvent c act) (h : ∀ s : State, (act s).now = s.now) : t.now = s.now := by
    rw [hev s] at hnext
    cases hnext
    exact State.unlessReset_keeps (·.now = s.now) s act rfl fun _ => h s
  cases c with
  | phaseTimerExpiry => exact absurd rfl hc
  | selectAccept =>
    refine hkeep (fun _ => rfl) fun s => ?_
    split
    · exact State.acceptedReport_keeps State.now (fun _ _ => rfl) s _
    · rfl
  | selectReject =>
    refine hkeep (fun _ => rfl) fun s => ?_
    split
    · exact s.endFailed_now _ _
    · rfl
  | selectWait =>
    refine hkeep (fun _ => rfl) fun s => ?_
    split <;> rfl
  | writeBeatAccept =>
    refine hkeep (fun _ => rfl) fun s => ?_
    split
    · split
      · exact State.acceptWriteBeat_keeps State.now (fun _ _ => rfl) (fun _ _ => rfl) (fun _ _ _ => rfl)
          (fun _ _ _ => rfl) (fun _ _ => rfl) (fun _ _ => rfl) s _ _ _
      · rfl
    · rfl
  | writeBeatError =>
    refine hkeep (fun _ => rfl) fun s => ?_
    split
    · split
      · exact s.endFailed_now _ _
      · rfl
    · rfl
  | readBeatData lanes parity =>
    refine hkeep (fun _ => rfl) fun s => ?_
    split
    · split
      · rfl
      · exact State.takeReadBeat_keeps State.now (fun _ _ => rfl) (fun _ _ _ => rfl) (fun _ _ => rfl) (fun _ _ => rfl)
          (fun _ _ => rfl) (fun _ _ => rfl) s _ _ _ _ _ _
    · rfl
  | readBeatError =>
    refine hkeep (fun _ => rfl) fun s => ?_
    split
    · split
      · rfl
      · exact s.endFailed_now _ _
    · rfl
  | _ => cases hans

theorem phaseTimerExpiry_acts (hnext : exec .phaseTimerExpiry s = .next t) : s.Acts t := by
  refine IsEvent.acts (c := .phaseTimerExpiry) (fun _ => rfl) (fun s => ?_) hnext
  split
  · next hbpc => exact s.atTimerEnd_acts _ _ fun hfirst => .timesOut _ _ hfirst (by rw [hbpc]; rfl)
  · next hbpc => exact s.atTimerEnd_acts _ _ fun hfirst => .timesOut _ _ hfirst (by rw [hbpc]; rfl)
  · exact State.acts_of_books rfl

/-- Every command but FULL_RESET is one act. -/
theorem exec_acts (hfull : ∀ cause, c ≠ .fullReset cause) (hnext : exec c s = .next t) : s.Acts t := by
  cases hans : answersBackplane c with
  | true =>
    by_cases hc : c = .phaseTimerExpiry
    · subst hc
      exact phaseTimerExpiry_acts hnext
    · exact (State.Act.answers (exec_answerOutcome c hans hnext) (answer_now hans hc hnext)).acts
  | false =>
    cases c with
    | phaseTimerExpiry | selectAccept | selectReject | selectWait | writeBeatAccept | writeBeatError | readBeatData
    | readBeatError => cases hans
    | fullReset cause => exact absurd rfl (hfull cause)
    | lossOfSignal n b => exact acts_of_take (fun _ => rfl) (takeLossOfSignal_acts n b) hnext
    | alertAssertion i b => exact acts_of_take (fun _ => rfl) (takeAlertAssertion_acts i b) hnext
    | hello n => exact Arrives.acts (fun _ => rfl) (takeHello_acts n) hnext
    | frameDrop n f => exact Arrives.acts (fun _ => rfl) (takeFrameDrop_acts n f) hnext
    | frameWaitsAtReceiver n f =>
      exact (frameWaitsAtReceiver_arrives n f).acts (fun s => State.acts_of_books (s.updPort_books n _)) hnext
    | read n tag a len =>
      exact Arrives.acts (take := takeRead n tag a len) (fun _ => rfl)
        (fun s => s.dispatch_acts n fun u => u.ticketedRequest_acts n tag .read a _ []) hnext
    | writeConfirmed n tag a len data =>
      exact Arrives.acts (fun _ => rfl) (takeWriteConfirmed_acts n tag a len data) hnext
    | write n a len data => exact Arrives.acts (fun _ => rfl) (takeWrite_acts n a len data) hnext
    | claim n tag number gen => exact Arrives.acts (fun _ => rfl) (takeClaim_acts n tag number gen) hnext
    | cancel n tag number gen => exact Arrives.acts (fun _ => rfl) (takeCancel_acts n tag number gen) hnext
    | mgmtUnknownCommand n tag code ops =>
      exact Arrives.acts (take := takeMgmtUnknown n tag code) (fun _ => rfl)
        (fun s => s.dispatch_acts n fun u => State.acts_of_books (u.form_books n _)) hnext
    | leaseTake n tag ops => exact Arrives.acts_of_owner (fun _ => rfl) (ownerLeaseTake_acts n) hnext
    | leaseRenew n tag ops => exact Arrives.acts_of_owner (fun _ => rfl) ownerLeaseRenew_acts hnext
    | leaseDrop n tag ops => exact Arrives.acts_of_owner (fun _ => rfl) ownerLeaseDrop_acts hnext
    | identify n tag ops =>
      exact Arrives.acts_of_owner (owner := ownerIdentify n) (fun _ => rfl) (fun _ _ _ => State.acts_of_books rfl) hnext
    | countersRead n tag ops => exact Arrives.acts_of_owner (fun _ => rfl) (ownerActs_of_setting _ n).1 hnext
    | countersClear n tag ops => exact Arrives.acts_of_owner (fun _ => rfl) ownerCountersClear_acts hnext
    | gateReset n tag ops =>
      exact Arrives.acts_of_owner (owner := ownerGateReset) (fun _ => rfl) (fun _ _ _ => State.Act.clears.acts) hnext
    | windowStage n tag ops => exact Arrives.acts_of_owner (fun _ => rfl) ownerWindowStage_acts hnext
    | windowUnstageClear n tag ops => exact Arrives.acts_of_owner (fun _ => rfl) ownerWindowUnstage_acts hnext
    | windowUnstageWithdraw n tag ops => exact Arrives.acts_of_owner (fun _ => rfl) ownerWindowUnstage_acts hnext
    | windowCommit n tag ops => exact Arrives.acts_of_owner (fun _ => rfl) ownerWindowCommit_acts hnext
    | windowLock n tag ops => exact Arrives.acts_of_owner (fun _ => rfl) ownerWindowLock_acts hnext
    | windowRead n tag ops =>
      obtain ⟨_, hread, _⟩ := ownerActs_of_setting false n
      exact Arrives.acts_of_owner (fun _ => rfl) hread hnext
    | setQuota n tag ops =>
      obtain ⟨_, _, hquota, _⟩ := ownerActs_of_setting true n
      exact Arrives.acts_of_owner (fun _ => rfl) hquota hnext
    | setDiscard n tag ops => exact Arrives.acts_of_owner (fun _ => rfl) ownerSetDiscard_acts hnext
    | ticketSummary n tag ops =>
      exact Arrives.acts_of_owner (owner := ownerTicketSummary) (fun _ => rfl) (fun _ _ _ => State.acts_of_books rfl)
        hnext
    | setBpTimeout n tag ops =>
      obtain ⟨_, _, _, htimeout, _⟩ := ownerActs_of_setting true n
      exact Arrives.acts_of_owner (fun _ => rfl) htimeout hnext
    | slotProbe n tag ops => exact Arrives.acts_of_owner (fun _ => rfl) ownerSlotProbe_acts hnext
    | slotFence n tag ops => exact Arrives.acts_of_owner (fun _ => rfl) ownerSlotFence_acts hnext
    | setFaultLimit n tag ops =>
      obtain ⟨_, _, _, _, hlimit, _⟩ := ownerActs_of_setting true n
      exact Arrives.acts_of_owner (fun _ => rfl) hlimit hnext
    | slotStatus n tag ops =>
      obtain ⟨_, _, _, _, _, hstatus, _⟩ := ownerActs_of_setting false n
      exact Arrives.acts_of_owner (fun _ => rfl) hstatus hnext
    | noticeEnable n tag ops => exact Arrives.acts_of_owner (fun _ => rfl) (ownerNoticeEnable_acts n) hnext
    | noticeAck n tag ops => exact Arrives.acts_of_owner (fun _ => rfl) ownerNoticeAck_acts hnext
    | noticeRead n tag ops =>
      obtain ⟨_, _, _, _, _, _, hread⟩ := ownerActs_of_setting false n
      exact Arrives.acts_of_owner (fun _ => rfl) hread hnext
    | holdExpiry k =>
      refine IsEvent.acts (c := .holdExpiry k) (fun _ => rfl) (fun s => ?_) hnext
      split
      · next h => exact s.atTimerEnd_acts _ _ fun hfirst => .holdEnds k _ _ _ hfirst ⟨_, .inl ⟨h, rfl⟩⟩
      · next h => exact s.atTimerEnd_acts _ _ fun hfirst => .holdEnds k _ _ _ hfirst ⟨_, .inr ⟨h, rfl⟩⟩
      · exact State.acts_of_books rfl
    | discardExpiry k =>
      refine IsEvent.acts (c := .discardExpiry k) (fun _ => rfl) (fun s => ?_) hnext
      split
      · next h => exact s.atTimerEnd_acts _ _ fun hfirst => .discards k _ _ _ hfirst h
      · exact State.acts_of_books rfl
    | leaseExpiry =>
      refine IsEvent.acts (c := .leaseExpiry) (fun _ => rfl) (fun s => ?_) hnext
      split
      · next h => exact s.atTimerEnd_acts _ _ fun hfirst => .leaseEnds _ hfirst h
      · exact State.acts_of_books rfl
    | arbiterGrant =>
      refine acts_of_take (take := takeArbiterGrant) (fun _ => rfl) (fun s => ?_) hnext
      rcases takeArbiterGrant_cases s with e | ⟨src, hidle, _, e⟩
      · rw [e]
        exact State.acts_of_books rfl
      · rw [e]
        exact s.grant_acts hidle src
    | headDisposal n =>
      refine IsEvent.acts (c := .headDisposal n) (fun _ => rfl) (fun s => ?_) hnext
      split
      · next hq =>
        split
        · next hslot =>
          split
          · exact State.acts_of_books rfl
          · exact (State.Act.disposes n _ _ _ hq hslot).acts
        · exact State.acts_of_books rfl
      · exact State.acts_of_books rfl
    | outboundFrameSent n =>
      exact IsEvent.acts (c := .outboundFrameSent n) (fun _ => rfl)
        (fun s => State.acts_of_books (s.updPort_books n _)) hnext
    | transmissionBegins n =>
      exact IsEvent.acts (c := .transmissionBegins n) (fun _ => rfl)
        (fun s => State.acts_of_books (s.updPort_books n _)) hnext

/-- While RESET is asserted, no command but FULL_RESET writes the books (R1). -/
theorem exec_books_of_reset (hfull : ∀ cause, c ≠ .fullReset cause) (hreset : s.resetPin = true)
    (hnext : exec c s = .next t) : t.books = s.books := by
  by_cases hlos : ∃ n b, c = .lossOfSignal n b
  · obtain ⟨n, b, rfl⟩ := hlos
    rw [exec_lossOfSignal_recorded s n b (by simp [hreset])] at hnext
    cases hnext
    rfl
  · by_cases halert : ∃ i b, c = .alertAssertion i b
    · obtain ⟨i, b, rfl⟩ := halert
      rw [exec_alertAssertion_recorded s i b (by simp [hreset])] at hnext
      cases hnext
      rfl
    · rcases arrives_or_isEvent c hfull (fun n b h => hlos ⟨n, b, h⟩) (fun i b h => halert ⟨i, b, h⟩) with
        ⟨n, f, take, harr⟩ | ⟨act, hev⟩
      · rw [harr.exec_stopped s (.inl hreset)] at hnext
        cases hnext
        rfl
      · rw [hev s] at hnext
        cases hnext
        simp only [State.unlessReset, hreset, if_true]

end

/-! ### Every step -/

/-- Where no expiry is due, every timer ends after the present (log 5). -/
theorem State.firstAt_of_dueEvents {s : State} (h : s.dueEvents = []) : s.firstAt (s.now + 1) := by
  simp only [State.dueEvents, List.append_eq_nil_iff, List.filterMap_eq_nil_iff, Option.toList_eq_nil_iff] at h
  obtain ⟨⟨hticket, hlease⟩, hphase⟩ := h
  intro x hx
  rcases (s.mem_timerEnds x).1 hx with ⟨t, ht⟩ | ⟨l, hl, rfl⟩ | hb
  · have hdue := hticket t (mem_ticketNumbers t)
    unfold State.dueTicket at hdue
    cases hst : (s.ticket t).st with
    | queued r d m | issued r d m =>
      cases m <;> simp_all [TicketState.timerEnd?]
    | ready r res d => cases d <;> simp_all [TicketState.timerEnd?]
    | free | detached => simp_all [TicketState.timerEnd?]
  · simp only [State.dueLease, hl] at hlease
    split at hlease
    · cases hlease
    · omega
  · unfold State.duePhase at hphase
    cases hbpc : s.bpc <;> simp_all [BpcState.timerEnd?]

/-- No event of the gate's own is a full reset. -/
theorem State.own_ne_fullReset {s : State} {c : Instr} (h : GateEvent.own c ∈ s.openEvents) (cause : ResetCause) :
    c ≠ .fullReset cause := by
  rintro rfl
  unfold State.openEvents at h
  split at h
  · simp at h
  · have hmem : Instr.fullReset cause ∈ s.dueEvents ++ s.ownEvents := by
      split at h <;> simpa using h
    simp only [State.dueEvents, State.ownEvents, List.mem_append, List.mem_filterMap, Option.mem_toList,
      List.mem_map] at hmem
    rcases hmem with ((⟨t, _, h⟩ | h) | h) | (⟨_, _, h⟩ | h) | ⟨_, _, h⟩
    · unfold State.dueTicket at h
      split at h <;> simp at h
    · unfold State.dueLease at h
      split at h <;> simp at h
    · unfold State.duePhase at h
      split at h <;> simp at h
    · cases h
    · split at h <;> simp at h
    · cases h

theorem decodeFrame_ne_fullReset (n : Link) (f : RawFrame) (cause : ResetCause) :
    decodeFrame n f ≠ .fullReset cause := by
  intro h
  have henc := encodeFrame_decodeFrame n f
  rw [h] at henc
  cases henc

/-- A command taken on a state with the books of another: one act, and none while RESET is asserted. -/
theorem exec_acts_of_books {c : Instr} {s u t : State} (hfull : ∀ cause, c ≠ .fullReset cause)
    (hnext : exec c u = .next t) (hbooks : u.books = s.books) :
    s.Acts t ∧ (s.resetPin = true → t.books = s.books) := by
  refine ⟨(exec_acts hfull hnext).before hbooks, fun hr => ?_⟩
  have hreset : u.resetPin = true := (congrArg Ledger.resetPin (State.ledger_of_books hbooks)).trans hr
  exact (exec_books_of_reset hfull hreset hnext).trans hbooks

/-- Every step other than a full reset: the time passes towards the next end of a timer, or one act (log 5). -/
theorem step_acts {s t : State} (hfull : ¬s.fullResetNext) (hstep : step s = .next t) :
    (t.books = (s.toward (s.now + 1)).books ∧ (s.resetPin = true ∨ s.firstAt (s.now + 1))) ∨
      (s.Acts t ∧ (s.resetPin = true → t.books = s.books)) := by
  cases hp : s.pending with
  | cons c rest =>
    rw [step_front hp] at hstep
    have hc : ∀ cause, c ≠ .fullReset cause := fun cause h => hfull ⟨cause, rest, by rw [hp, h]⟩
    exact .inr (exec_acts_of_books hc hstep rfl)
  | nil =>
    rw [step_idle hp] at hstep
    have hmem := s.nextEvent_mem
    cases hev : s.nextEvent with
    | time =>
      rw [hev] at hstep hmem
      cases hstep
      refine .inl ⟨?_, (State.time_mem_openEvents hmem).imp_right State.firstAt_of_dueEvents⟩
      simp [State.books, State.ledger, State.toward]
    | own c =>
      rw [hev] at hstep hmem
      have hc := State.own_ne_fullReset hmem
      exact .inr (exec_acts_of_books hc hstep rfl)
    | takeWaiting n =>
      rw [hev] at hstep
      simp only [GateEvent.run, State.takeWaiting] at hstep
      split at hstep
      · cases hstep
        exact .inr ⟨State.acts_of_books rfl, fun _ => rfl⟩
      · next f rest _ =>
        split at hstep
        · next u hu =>
          cases hstep
          obtain ⟨hacts, hreset⟩ := exec_acts_of_books (s := s) (decodeFrame_ne_fullReset n f) hu rfl
          exact .inr ⟨hacts.after rfl, hreset⟩
        · cases hstep
        · cases hstep

/-- The states a full reset leaves: the level of the input recorded, or the values after reset (R1; log 2). -/
theorem takeFullReset_cases (cause : ResetCause) (s : State) :
    (∃ b, takeFullReset cause s = { s with resetPin := b } ∧ (b = true → s.resetPin = true)) ∨
      ∃ b, takeFullReset cause s = s.cleared b := by
  cases cause with
  | powerOn => exact .inr ⟨_, rfl⟩
  | resetInput asserted =>
    cases asserted with
    | false => exact .inl ⟨false, rfl, nofun⟩
    | true =>
      cases hr : s.resetPin with
      | true => exact .inl ⟨true, by cases s; simp_all [takeFullReset], fun _ => rfl⟩
      | false => exact .inr ⟨true, by simp only [takeFullReset, hr, Bool.false_eq_true, if_false]; rfl⟩

theorem step_fullReset {s t : State} (hfull : s.fullResetNext) (hstep : step s = .next t) :
    (∃ b, t.books = ({ s with resetPin := b } : State).books ∧ (b = true → s.resetPin = true)) ∨
      ∃ b, t.books = (s.cleared b).books := by
  obtain ⟨cause, rest, hp⟩ := hfull
  rw [step_front hp] at hstep
  cases hstep
  rcases takeFullReset_cases cause { s with pending := rest } with ⟨b, e, hb⟩ | ⟨b, e⟩
  · exact .inl ⟨b, by rw [e]; rfl, hb⟩
  · exact .inr ⟨b, by rw [e]; rfl⟩

/-! ### The law of notices -/

/-- The law of notices for the record of one kind (R145). -/
def KindRecord.Lawful (k : NoticeKind) (r : KindRecord) : Prop :=
  match r.latch with
  | .clear => r.sent = .both false
  | .latched c d => c ≠ 0 ∧ d.kind = k

/-- The law of notices, closed to unfolding. -/
structure State.NoticesLawful (s : State) : Prop where
  kind : ∀ k, (s.kind k).Lawful k

theorem State.noticeLaw_iff (s : State) : s.NoticeLaw ↔ s.NoticesLawful := ⟨fun h => ⟨h⟩, fun h => h.kind⟩

theorem State.NoticesLawful.of_kinds {s t : State} (hs : s.NoticesLawful) (h : t.kinds = s.kinds) :
    t.NoticesLawful := by
  refine ⟨fun k => ?_⟩
  have hk : t.kind k = s.kind k := by unfold State.kind; rw [h]
  rw [hk]
  exact hs.kind k

theorem riseCount_ne_zero {c : Byte} (h : c ≠ 0) : riseCount c ≠ 0 := by
  unfold riseCount
  split
  · exact h
  · bv_omega

theorem Latch.raise_lawful {r : KindRecord} {d : Detail} (h : r.Lawful d.kind) {q : KindRecord}
    (hq : q.latch = r.latch.raise d) : q.Lawful d.kind := by
  unfold KindRecord.Lawful at h ⊢
  rw [hq]
  cases hl : r.latch with
  | clear => exact ⟨by decide, rfl⟩
  | latched c d0 =>
    rw [hl] at h
    obtain ⟨hc, hd⟩ := h
    exact ⟨riseCount_ne_zero hc, hd⟩

theorem State.NoticesLawful.raise {s : State} (hs : s.NoticesLawful) (d : Detail) : (s.raise d).NoticesLawful := by
  refine ⟨fun k => ?_⟩
  by_cases hk : k = d.kind
  · subst hk
    exact Latch.raise_lawful (hs.kind d.kind) (s.raise_latch d)
  · rw [s.raise_kind_of_ne hk]
    exact hs.kind k

/-- The emission test leaves a CLEAR kind, and of a LATCHED one all but the sent flag (R148). -/
theorem State.emitted_lawful {s : State} {k : NoticeKind} (n : Link) (h : (s.kind k).Lawful k) :
    (s.emitted k n).Lawful k := by
  cases hl : (s.kind k).latch with
  | clear =>
    have hsame : s.emitted k n = s.kind k := by
      simp only [State.emitted, State.notice?_clear n hl, Option.isSome_none, Bool.or_false, PerLink.set_get]
    rw [hsame]
    exact h
  | latched c d =>
    unfold KindRecord.Lawful at h ⊢
    rw [hl] at h
    have hl' : (s.emitted k n).latch = .latched c d := hl
    rw [hl']
    exact h

theorem State.NoticesLawful.emitAll {s : State} (hs : s.NoticesLawful) (n : Link) : (s.emitAll n).NoticesLawful := by
  refine ⟨fun k => ?_⟩
  rw [s.emitAll_kind n k]
  exact State.emitted_lawful n (hs.kind k)

theorem State.NoticesLawful.ack {s : State} (hs : s.NoticesLawful) (k : NoticeKind) :
    (s.updKind k fun _ => .reset).NoticesLawful := by
  refine ⟨fun j => ?_⟩
  rw [State.updKind_kind]
  split
  · exact rfl
  · exact hs.kind j

theorem State.clearNotices_noticesLawful (s : State) : s.clearNotices.NoticesLawful := by
  refine ⟨fun k => ?_⟩
  have hk : s.clearNotices.kind k = .reset := by cases k <;> rfl
  rw [hk]
  exact rfl

theorem State.NoticesLawful.clearSent {s : State} (hs : s.NoticesLawful) (n : Link) :
    (s.clearSent n).NoticesLawful := by
  refine ⟨fun k => ?_⟩
  have hk := hs.kind k
  rw [s.clearSent_kind n k]
  unfold KindRecord.Lawful at hk ⊢
  cases hl : (s.kind k).latch with
  | clear =>
    rw [hl] at hk
    have hsent : (s.kind k).sent = .both false := hk
    dsimp only
    rw [hsent]
    cases n <;> rfl
  | latched c d =>
    rw [hl] at hk
    exact hk

theorem State.NoticesLawful.loseLease {s : State} (hs : s.NoticesLawful) (l : Lease) (e : LeaseEvent) :
    (s.loseLease l e).NoticesLawful := by
  unfold State.loseLease
  refine State.NoticesLawful.raise (?_ : State.NoticesLawful _) _
  exact hs.of_kinds rfl

theorem State.NoticesLawful.linkReset {s : State} (hs : s.NoticesLawful) (n : Link) :
    (s.linkReset n).NoticesLawful := by
  have hcleared : ((((s.updPort n Port.discardOutbound).updPort n Port.clearEnables).clearSent n).resetTickets
      n).NoticesLawful :=
    ((hs.of_kinds rfl).clearSent n).of_kinds (State.resetTickets_kinds _ n)
  refine State.NoticesLawful.of_kinds (s := State.releaseLease _ n) ?_ rfl
  unfold State.releaseLease
  split
  · split
    · exact hcleared.loseLease _ _
    · exact hcleared
  · exact hcleared

theorem State.NoticesLawful.bringUp {s : State} (hs : s.NoticesLawful) (n : Link) : (s.bringUp n).NoticesLawful := by
  unfold State.bringUp
  exact State.NoticesLawful.emitAll (hs.of_kinds (s.updPort_kinds n _)) n

theorem State.NoticesLawful.changeSlot {s : State} (hs : s.NoticesLawful) (i : Fin 16) (r : Slot) (c : ChangeCause) :
    (s.changeSlot i r c).NoticesLawful :=
  (hs.of_kinds (s.updSlot_kinds i _)).raise _

theorem State.NoticesLawful.reportFailure {s : State} (hs : s.NoticesLawful) (i : Fin 16) (f : Failure)
    (posted : Bool) :
    (s.reportFailure i f posted).NoticesLawful := by
  unfold State.reportFailure
  dsimp only
  split
  · exact hs.changeSlot i _ _
  · exact hs.of_kinds (s.updSlot_kinds i _)

theorem State.NoticesLawful.probeResult {s : State} (hs : s.NoticesLawful) (i : Fin 16) (x : Option (BitVec 32)) :
    (s.probeResult i x).NoticesLawful := by
  unfold State.probeResult
  split
  · split <;> exact hs.changeSlot i _ _
  · exact hs

theorem State.NoticesLawful.complete {s : State} (hs : s.NoticesLawful) (t : Fin 24) (res : Result) :
    (s.complete t res).NoticesLawful :=
  hs.of_kinds (s.complete_kinds t res)

theorem State.NoticesLawful.endFailed {s : State} (hs : s.NoticesLawful) (op : Operation) (f : Failure) :
    (s.endFailed op f).NoticesLawful := by
  cases op with
  | probe i => exact (hs.probeResult i none).of_kinds rfl
  | postedWrite n e => exact ((hs.reportFailure e.slot f true).raise _).of_kinds rfl
  | ticketed t r d =>
    unfold State.endFailed
    dsimp only
    refine State.NoticesLawful.of_kinds (s := State.complete _ t _) (State.NoticesLawful.complete ?_ t _) rfl
    split
    · exact (hs.reportFailure r.slot f false).raise _
    · exact hs.reportFailure r.slot f false

theorem State.NoticesLawful.endRead {s : State} (hs : s.NoticesLawful) (op : Operation) (bytes : List Byte)
    (lanes : BitVec 32) : (s.endRead op bytes lanes).NoticesLawful := by
  cases op with
  | probe i => exact (hs.probeResult i _).of_kinds rfl
  | postedWrite n e => exact hs
  | ticketed t r d => exact (hs.complete t _).of_kinds rfl

theorem State.NoticesLawful.takeReadBeat {s : State} (hs : s.NoticesLawful) (op : Operation) (row : Option ModAddr)
    (i : Nat)
    (got : List Byte) (lanes : BitVec 32) (parity : BitVec 4) :
    (s.takeReadBeat op row i got lanes parity).NoticesLawful := by
  unfold State.takeReadBeat
  dsimp only
  split
  · split
    · exact hs.of_kinds rfl
    · exact hs.endRead op _ lanes
  · exact hs.endFailed op _

theorem State.AnswerOutcome.noticesLawful {s t : State} (h : s.AnswerOutcome t) (hs : s.NoticesLawful) :
    t.NoticesLawful := by
  cases h with
  | ignored => exact hs
  | selectAccepted op row _ =>
    exact (hs.of_kinds (State.kinds_of_books (s.acceptedReport_books op))).of_kinds rfl
  | selectWaits op row _ => exact hs.of_kinds rfl
  | fails op f _ => exact hs.endFailed op f
  | timesOut op e _ => exact (hs.of_kinds rfl : (s.toward e).NoticesLawful).endFailed op _
  | writeBeat op row i _ =>
    exact hs.of_kinds (State.acceptWriteBeat_keeps State.kinds (fun _ _ => rfl) (fun _ _ => rfl)
      (fun _ _ _ => rfl) (fun _ _ _ => rfl) (fun _ _ => rfl) (fun _ _ => rfl) s op row i)
  | readBeat op row i got lanes parity _ => exact hs.takeReadBeat op row i got lanes parity

theorem State.NoticesLawful.disposeHead {s : State} (hs : s.NoticesLawful) (n : Link) (e : WorkEntry)
    (rest : List WorkEntry)
    (i : Fin 16) : (s.disposeHead n e rest i).NoticesLawful := by
  have hqueue : (s.setQueue n rest).NoticesLawful := hs.of_kinds rfl
  cases e with
  | ticketed t => exact hqueue.complete t _
  | posted p =>
    unfold State.disposeHead
    dsimp only
    refine (State.NoticesLawful.raise ?_ _).of_kinds (State.report_kinds _ n 1)
    exact hqueue.of_kinds (State.updSlot_kinds _ i _)

theorem State.NoticesLawful.returnProbe {s : State} (hs : s.NoticesLawful) (i : Fin 16) :
    (s.returnProbe i).NoticesLawful := by
  unfold State.returnProbe
  split
  · exact hs.changeSlot i _ _
  · exact hs

theorem State.NoticesLawful.resetProbes {s : State} (hs : s.NoticesLawful) : s.resetProbes.NoticesLawful :=
  List.foldlRecOn s.probes _ (hs.of_kinds rfl) fun _ hu i _ => State.NoticesLawful.returnProbe hu i

theorem State.gateReset_noticesLawful (s : State) : s.gateReset.NoticesLawful := by
  have hwork : s.flushDirect.clearNotices.resetWork.NoticesLawful :=
    s.flushDirect.clearNotices_noticesLawful.of_kinds
      (State.resetWork_keeps State.kinds (fun _ _ => rfl) (fun _ _ _ => rfl) (fun _ _ => rfl) (fun _ _ => rfl) _)
  unfold State.gateReset
  have hprobes := hwork.resetProbes
  generalize s.flushDirect.clearNotices.resetWork.resetProbes = u at hprobes
  exact hprobes.of_kinds rfl

theorem State.Act.noticesLawful {s t : State} (h : s.Act t) (hs : s.NoticesLawful) : t.NoticesLawful := by
  have htoward (e : Nat) : (s.toward e).NoticesLawful := hs.of_kinds rfl
  have hhold (n : Link) (d : Byte) : (s.hold n d).NoticesLawful := hs.of_kinds rfl
  cases h with
  | quiet h => exact hs.of_kinds (State.kinds_of_books h)
  | raises d => exact hs.raise d
  | emits n => exact hs.emitAll n
  | acks k => exact hs.ack k
  | resets n => exact hs.linkReset n
  | restarts n => exact (hs.linkReset n).bringUp n
  | admits t r data hold _ =>
    exact hs.of_kinds (State.allocate_keeps State.kinds (fun _ _ => rfl) (fun _ _ => rfl)
      (fun _ _ _ => rfl) s t r data hold)
  | joins | claims | cancels | detaches | holdEnds | holdsLease | stages | selects =>
    exact hs.of_kinds rfl
  | locks i l _ => exact hs.of_kinds rfl
  | discards t r res e _ _ =>
    exact (hs.of_kinds rfl :
      ({ (s.toward e).freeTicket t with expired := rise s.expired } : State).NoticesLawful).raise _
  | leaseEnds l _ _ => exact (htoward _).loseLease l _
  | dropsLease l _ => exact hs.loseLease l _
  | takesLease n d => exact (hhold n d).raise _
  | commits _ => exact hs.of_kinds s.applyCommit_kinds
  | revokes _ =>
    refine (hs.of_kinds s.applyCommit_kinds).of_kinds ?_
    exact State.revoke_keeps State.kinds (fun _ _ _ => rfl) (fun _ _ _ => rfl) (fun _ _ => rfl) (fun _ _ => rfl)
      (fun _ _ => rfl) s.applyCommit
  | answers h _ => exact h.noticesLawful hs
  | timesOut op e _ _ => exact (htoward e).endFailed op _
  | grantsQueue n _ =>
    exact hs.of_kinds (State.grantQueue_keeps State.kinds (fun _ _ => rfl) (fun _ _ => rfl) (fun _ _ _ => rfl)
      (fun _ _ => rfl) (fun _ _ => rfl) s n)
  | grantsProbe _ =>
    exact hs.of_kinds (State.grantProbe_keeps State.kinds (fun _ _ => rfl) (fun _ _ => rfl) (fun _ _ => rfl)
      (fun _ _ => rfl) s)
  | disposes n e rest i _ _ => exact hs.disposeHead n e rest i
  | clears => exact s.gateReset_noticesLawful

theorem State.reset_noticesLawful : State.reset.NoticesLawful := by
  refine ⟨fun k => ?_⟩
  cases k <;> exact rfl

theorem step_keeps_noticesLawful {s t : State} (hs : s.NoticesLawful) (hstep : step s = .next t) : t.NoticesLawful := by
  by_cases hfull : s.fullResetNext
  · rcases step_fullReset hfull hstep with ⟨b, h, _⟩ | ⟨b, h⟩
    · exact hs.of_kinds ((State.kinds_of_books h).trans rfl)
    · exact State.reset_noticesLawful.of_kinds ((State.kinds_of_books h).trans rfl)
  · rcases step_acts hfull hstep with ⟨h, _⟩ | ⟨⟨u, v, hu, hact, hv⟩, _⟩
    · exact hs.of_kinds ((State.kinds_of_books h).trans rfl)
    · exact (hact.noticesLawful (hs.of_kinds (State.kinds_of_books hu))).of_kinds (State.kinds_of_books hv)

/-! ### What a completion makes of a ticket -/

/-- A ticket after its completion (R40, R42, R43). -/
def Ticket.completed (k : Ticket) (deadline : Option Nat) (res : Result) : Ticket :=
  match k.st with
  | .queued r _ .deferred => ⟨k.gen, .ready r res deadline⟩
  | .issued r _ .deferred => ⟨k.gen, .ready r res deadline⟩
  | .queued _ _ (.direct _) => k.freed
  | .issued _ _ (.direct _) => k.freed
  | .detached _ => k.freed
  | .ready _ _ _ => k
  | .free => k

theorem State.completeRequest_ticket (s : State) (t k : Fin 24) (r : Request) (m : ReplyMode) (res : Result) :
    (s.completeRequest t r m res).ticket k = if k = t then
      match m with
      | .direct _ => (s.ticket t).freed
      | .deferred => ⟨(s.ticket t).gen, .ready r res (s.discard.deadline s.now)⟩
    else s.ticket k := by
  cases m with
  | direct e => exact State.freeTicket_ticket _ t k
  | deferred => exact State.setTicketState_ticket s t k _

theorem State.complete_ticket (s : State) (t k : Fin 24) (res : Result) :
    (s.complete t res).ticket k =
      if k = t then (s.ticket t).completed (s.discard.deadline s.now) res else s.ticket k := by
  have hself : s.ticket k = if k = t then s.ticket t else s.ticket k := by
    split
    · next h => rw [h]
    · rfl
  unfold State.complete Ticket.completed
  cases hst : (s.ticket t).st with
  | queued r d m => cases m <;> exact s.completeRequest_ticket t k r _ res
  | issued r d m => cases m <;> exact s.completeRequest_ticket t k r _ res
  | detached r => exact s.freeTicket_ticket t k
  | ready r x d => exact hself
  | free => exact hself

/-! ### The moves of the tables and of the tickets -/

/-- Everything that an act does to the time, the window table, the lease and the discard selection. -/
inductive State.TableMove (s : State) : State → Prop where
  | stays : s.TableMove s
  | passes (e : Nat) (hfirst : s.firstAt e) : s.TableMove (s.toward e)
  | stages (i : Fin 32) (c : StagingCell) (hlease : s.lease ≠ none) (hvalid : ∀ r, c = .set r → r.valid = true) :
    s.TableMove (s.setCell i c)
  | commits (h : s.commitFailure = none) : s.TableMove s.applyCommit
  | locks (i : Fin 32) (l : LockLevel) (h : s.locks[i].rank ≤ l.rank) : s.TableMove { s with locks := s.locks.set i l }
  | holds (n : Link) (d : Byte) : s.TableMove (s.hold n d)
  | frees : s.TableMove { s with lease := none, staging := .replicate 32 .none }
  | lapses (e : Nat) (hfirst : s.firstAt e) :
    s.TableMove { s.toward e with lease := none, staging := .replicate 32 .none }
  | selects (d : DiscardSelection) : s.TableMove { s with discard := d }

/-- Everything that an act does to the tickets, the work queues and the controller, posted entries left apart. -/
inductive State.TicketMove (s : State) : State → Prop where
  | carriesOn (n : Link) (es : List WorkEntry) (b : BpcState)
    (hqueue : ∀ t, es.count (.ticketed t) = (s.queue n).count (.ticketed t))
    (hop : b.operation?.bind Operation.ticket? = s.ticketInProgress)
    (htimer : ∀ x, b.timerEnd? = some x → s.bpc.timerEnd? = some x ∨ s.now ≤ x) :
    s.TicketMove { s with queues := s.queues.set n es, bpc := b }
  | admits (t : Fin 24) (r : Request) (data : List Byte) (hold : Option Nat) (h : s.lowestFree = some t) :
    s.TicketMove (s.allocate t r data hold)
  | finishes (t : Fin 24) (r : Request) (res : Result) (h : s.ticketInProgress = some (t, r)) :
    s.TicketMove (s.complete t res).toIdle
  | disposes (n : Link) (t : Fin 24) (rest : List WorkEntry) (res : Result) (hq : s.queue n = .ticketed t :: rest)
    (hst : ∃ r d m, (s.ticket t).st = .queued r d m) : s.TicketMove ((s.setQueue n rest).complete t res)
  | grants (n : Link) (t : Fin 24) (rest : List WorkEntry) (r : Request) (d : List Byte) (m : ReplyMode)
    (hq : s.queue n = .ticketed t :: rest) (hst : (s.ticket t).st = .queued r d m) (hidle : s.bpc = .idle) :
    s.TicketMove (((s.setQueue n rest).setTicketState t (.issued r d m)).startSelect (.ticketed t r d))
  | claims (t : Fin 24) (r : Request) (res : Result) (d : Option Nat) (h : (s.ticket t).st = .ready r res d) :
    s.TicketMove (s.freeTicket t)
  | cancels (t : Fin 24) (r : Request) (d : List Byte) (h : (s.ticket t).st = .queued r d .deferred) :
    s.TicketMove ((s.dropEntry r.owner t).freeTicket t)
  | detaches (t : Fin 24) (r : Request) (d : List Byte) (h : (s.ticket t).st = .issued r d .deferred) :
    s.TicketMove (s.setTicketState t (.detached r))
  | holdEnds (t : Fin 24) (r : Request) (st : TicketState) (e : Nat)
    (h : ∃ d, (s.ticket t).st = .queued r d (.direct e) ∧ st = .queued r d .deferred ∨
      (s.ticket t).st = .issued r d (.direct e) ∧ st = .issued r d .deferred) : s.TicketMove (s.setTicketState t st)
  | revokes : s.TicketMove s.revoke
  | resets (n : Link) : s.TicketMove (s.resetTickets n)
  | clears : s.TicketMove s.flushDirect.resetWork

/-- Nothing happens to the tickets. -/
theorem State.TicketMove.stays (s : State) : s.TicketMove s := by
  have h := State.TicketMove.carriesOn (s := s) .l0 (s.queue .l0) s.bpc (fun _ => rfl) rfl fun _ hx => .inl hx
  simpa [State.queue] using h

/-- One move of the tickets. -/
def State.Works (s t : State) : Prop := ∃ v : State, s.TicketMove v ∧ t.ledger = v.ledger

/-- One move of the tables, then one of the tickets. -/
def State.Moves (s t : State) : Prop := ∃ u : State, s.TableMove u ∧ u.Works t

theorem State.TicketMove.works {s v t : State} (h : s.TicketMove v) (ht : t.ledger = v.ledger) : s.Works t :=
  ⟨v, h, ht⟩

theorem State.works_of_ledger {s t : State} (h : t.ledger = s.ledger) : s.Works t := (State.TicketMove.stays s).works h

theorem State.Works.moves {s t : State} (h : s.Works t) : s.Moves t := ⟨s, .stays, h⟩

theorem State.TableMove.moves {s u t : State} (h : s.TableMove u) (ht : t.ledger = u.ledger) : s.Moves t :=
  ⟨u, h, State.works_of_ledger ht⟩

/-! ### The moves of a transaction -/

/-- Nothing changes but the controller, and posted entries in a queue. -/
theorem State.works_of_bpc {s t : State} (b : BpcState) (ht : t.ledger = { s.ledger with bpc := b })
    (hop : b.operation?.bind Operation.ticket? = s.ticketInProgress)
    (htimer : ∀ x, b.timerEnd? = some x → s.bpc.timerEnd? = some x ∨ s.now ≤ x) : s.Works t := by
  have h := State.TicketMove.carriesOn (s := s) .l0 (s.queue .l0) b (fun _ => rfl) hop htimer
  exact h.works (by rw [ht]; simp [State.ledger, State.queue])

theorem State.ticketInProgress_of_operation {s : State} {op : Operation} (h : s.bpc.operation? = some op) :
    s.ticketInProgress = op.ticket? := by
  simp only [State.ticketInProgress, h, Option.bind_some]

theorem State.now_le_phaseEnd (s : State) : s.now ≤ s.phaseEnd := Nat.le_add_right _ _

theorem State.tickets_ext {s t : State} (h : ∀ k, t.ticket k = s.ticket k) : t.tickets = s.tickets :=
  Vector.ext fun i hi => h ⟨i, hi⟩

/-- What a completion does to the ledger (R42). -/
theorem State.complete_ledger (s : State) (t : Fin 24) (res : Result) :
    (s.complete t res).ledger =
      { s.ledger with tickets := s.tickets.set t ((s.ticket t).completed (s.discard.deadline s.now) res) } := by
  have htickets : (s.complete t res).tickets =
      s.tickets.set t ((s.ticket t).completed (s.discard.deadline s.now) res) :=
    State.tickets_ext (s := { s with tickets := s.tickets.set t _ }) fun k =>
      (s.complete_ticket t k res).trans (vector_set_get s.tickets t k _).symm
  simp only [State.ledger, htickets, State.complete_now, State.complete_resetPin, State.complete_active,
    State.complete_staging, State.complete_locks, State.complete_lease, State.complete_queues, State.complete_discard,
    State.complete_bpc]

theorem State.complete_ledger_congr {s u : State} (h : u.ledger = s.ledger) (t : Fin 24) (res : Result) :
    (u.complete t res).ledger = (s.complete t res).ledger := by
  rw [u.complete_ledger t res, s.complete_ledger t res, h,
    State.read_of_ledger h fun u => u.tickets.set t ((u.ticket t).completed (u.discard.deadline u.now) res)]

theorem State.toIdle_ledger (s : State) : s.toIdle.ledger = { s.ledger with bpc := .idle } := rfl

/-- The end of the operation of a ticket: its completion, and the return to IDLE (R42, R112). -/
theorem State.works_of_finish {s u : State} {t : Fin 24} {r : Request} {d : List Byte} (hu : u.ledger = s.ledger)
    (h : s.bpc.operation? = some (.ticketed t r d)) (res : Result) : s.Works (u.complete t res).toIdle := by
  refine (State.TicketMove.finishes t r res (State.ticketInProgress_of_operation h)).works ?_
  rw [State.toIdle_ledger, State.toIdle_ledger, State.complete_ledger_congr hu]

/-- The end of an operation of no ticket: the return to IDLE (R112). -/
theorem State.works_of_idle {s u : State} {op : Operation} (hu : u.ledger = s.ledger) (h : s.bpc.operation? = some op)
    (hop : op.ticket? = none) : s.Works u.toIdle := by
  refine State.works_of_bpc .idle (by rw [State.toIdle_ledger, hu]) ?_ nofun
  rw [State.ticketInProgress_of_operation h, hop]
  rfl

/-- The operation in progress goes on under a fresh phase timer (R113). -/
theorem State.works_of_beat {s u : State} {op : Operation} (hu : u.ledger = s.ledger) (h : s.bpc.operation? = some op)
    (row : Option ModAddr) (i : Nat) (got : List Byte) (cont : Option Nat) :
    s.Works (u.awaitBeat op row i got cont) := by
  refine State.works_of_bpc (.transfer op row u.phaseEnd i got) ?_ (State.ticketInProgress_of_operation h).symm ?_
  · rw [← hu]
    rfl
  · rintro x ⟨⟩
    have hnow : u.now = s.now := congrArg Ledger.now hu
    rw [← hnow]
    exact .inr u.now_le_phaseEnd

theorem State.endFailed_works {s : State} {op : Operation} (h : s.bpc.operation? = some op) (f : Failure) :
    s.Works (s.endFailed op f) := by
  cases op with
  | probe i => exact State.works_of_idle (s.probeResult_ledger i none) h rfl
  | postedWrite n e =>
    exact State.works_of_idle ((State.raise_ledger _ _).trans (s.reportFailure_ledger _ _ _)) h rfl
  | ticketed t r d =>
    unfold State.endFailed
    dsimp only
    refine State.works_of_finish ?_ h _
    split
    · exact (State.raise_ledger _ _).trans (s.reportFailure_ledger _ _ _)
    · exact s.reportFailure_ledger _ _ _

theorem State.endRead_works {s : State} {op : Operation} (h : s.bpc.operation? = some op) (bytes : List Byte)
    (lanes : BitVec 32) : s.Works (s.endRead op bytes lanes) := by
  cases op with
  | probe i => exact State.works_of_idle (s.probeResult_ledger i _) h rfl
  | postedWrite n e => exact State.works_of_ledger rfl
  | ticketed t r d => exact State.works_of_finish rfl h _

theorem State.takeReadBeat_works {s : State} {op : Operation} (h : s.bpc.operation? = some op) (row : Option ModAddr)
    (i : Nat) (got : List Byte) (lanes : BitVec 32) (parity : BitVec 4) :
    s.Works (s.takeReadBeat op row i got lanes parity) := by
  unfold State.takeReadBeat
  dsimp only
  split
  · split
    · exact State.works_of_beat rfl h _ _ _ _
    · exact State.endRead_works h _ _
  · exact State.endFailed_works h _

/-- Posted entries leave a queue, and the controller turns to an operation of no ticket. -/
theorem State.works_of_posted {s t : State} (n : Link) {e : PostedEntry} {rest : List WorkEntry} (b : BpcState)
    (hq : s.queue n = .posted e :: rest)
    (ht : t.ledger = { s.ledger with queues := s.queues.set n rest, bpc := b })
    (hop : b.operation?.bind Operation.ticket? = s.ticketInProgress)
    (htimer : ∀ x, b.timerEnd? = some x → s.bpc.timerEnd? = some x ∨ s.now ≤ x) : s.Works t := by
  refine (State.TicketMove.carriesOn (s := s) n rest b (fun k => ?_) hop htimer).works ht
  rw [hq, List.count_cons_of_ne (by simp)]

theorem State.endPosted_works {s : State} {n : Link} {cur : PostedEntry}
    (h : s.bpc.operation? = some (.postedWrite n cur)) (row : Option ModAddr) : s.Works (s.endPosted n cur row) := by
  unfold State.endPosted
  split
  · next e rest hc =>
    refine State.works_of_posted n (.transfer (.postedWrite n e) row s.phaseEnd 0 []) (State.queue_of_continuation hc)
      rfl
      (State.ticketInProgress_of_operation h).symm ?_
    rintro x ⟨⟩
    exact .inr s.now_le_phaseEnd
  · exact State.works_of_idle rfl h rfl

theorem State.acceptWriteBeat_works {s : State} {op : Operation} (h : s.bpc.operation? = some op)
    (row : Option ModAddr) (i : Nat) : s.Works (s.acceptWriteBeat op row i) := by
  unfold State.acceptWriteBeat
  split
  · exact State.works_of_beat rfl h _ _ _ _
  · split
    · exact State.endPosted_works h row
    · exact State.works_of_finish rfl h _
    · exact State.works_of_ledger rfl

/-- An answer that takes no time moves the tickets alone. -/
theorem State.AnswerOutcome.works {s t : State} (h : s.AnswerOutcome t) (hnow : t.now = s.now) : s.Works t := by
  cases h with
  | ignored => exact State.works_of_ledger rfl
  | selectAccepted op row hop =>
    exact State.works_of_beat (State.ledger_of_books (s.acceptedReport_books op)) hop row 0 [] none
  | selectWaits op row hop =>
    refine State.works_of_bpc (.addressing op row s.phaseEnd) rfl (State.ticketInProgress_of_operation hop).symm ?_
    rintro x ⟨⟩
    exact .inr s.now_le_phaseEnd
  | fails op f hop => exact State.endFailed_works hop f
  | timesOut op e hop =>
    have he : s.toward e = s := by
      have hmax : max s.now e = s.now := (State.endFailed_now (s.toward e) op .timeout).symm.trans hnow
      simp only [State.toward, hmax]
    rw [he]
    exact State.endFailed_works hop .timeout
  | writeBeat op row i hop => exact State.acceptWriteBeat_works hop row i
  | readBeat op row i got lanes parity hop => exact State.takeReadBeat_works hop row i got lanes parity

/-! ### The moves of a grant and of head disposal -/

theorem State.ticketInProgress_of_idle {s : State} (h : s.bpc = .idle) : s.ticketInProgress = none := by
  simp only [State.ticketInProgress, h, BpcState.operation?, Option.bind_none]

theorem State.grantQueue_works {s : State} (hidle : s.bpc = .idle) (n : Link) : s.Works (s.grantQueue n) := by
  unfold State.grantQueue
  split
  · next e rest hq =>
    refine State.works_of_posted n (.addressing (.postedWrite n e) (some (rowOf e.addr)) s.phaseEnd) hq rfl
      (State.ticketInProgress_of_idle hidle).symm ?_
    rintro x ⟨⟩
    exact .inr s.now_le_phaseEnd
  · next t rest hq =>
    split
    · next hst => exact (State.TicketMove.grants n t rest _ _ _ hq hst hidle).works rfl
    · exact State.works_of_ledger rfl
  · exact State.works_of_ledger rfl

theorem State.grantProbe_works {s : State} (hidle : s.bpc = .idle) : s.Works s.grantProbe := by
  unfold State.grantProbe
  split
  · next i rest _ =>
    refine State.works_of_bpc (.addressing (.probe i) none s.phaseEnd) rfl
      (State.ticketInProgress_of_idle hidle).symm ?_
    rintro x ⟨⟩
    exact .inr s.now_le_phaseEnd
  · exact State.works_of_ledger rfl

theorem State.disposeHead_works {s : State} {n : Link} {e : WorkEntry} {rest : List WorkEntry} {i : Fin 16}
    (hq : s.queue n = e :: rest) (hslot : s.entrySlot e = some i) : s.Works (s.disposeHead n e rest i) := by
  cases e with
  | ticketed t =>
    obtain ⟨r, d, m, hst, _⟩ := (s.entrySlot_ticketed t i).1 hslot
    exact (State.TicketMove.disposes n t rest _ hq ⟨r, d, m, hst⟩).works rfl
  | posted p =>
    refine State.works_of_posted n s.bpc hq ?_ rfl fun x hx => .inl hx
    unfold State.disposeHead
    dsimp only
    exact State.raise_ledger _ _

/-! ### The moves of a link reset and of a gate reset -/

theorem State.releaseLease_ledger (s : State) (n : Link) :
    (s.releaseLease n).ledger =
      if s.holdsLease n then { s.ledger with lease := none, staging := .replicate 32 .none } else s.ledger := by
  unfold State.releaseLease State.holdsLease
  cases s.lease with
  | none => rfl
  | some l =>
    by_cases h : l.holder = n
    · simp only [h, decide_true, if_true]
      exact s.loseLease_ledger l _
    · simp only [h, decide_false, if_false, Bool.false_eq_true]

theorem State.resetTickets_holdsLease (s : State) (n m : Link) : (s.resetTickets n).holdsLease m = s.holdsLease m := by
  unfold State.holdsLease
  rw [s.resetTickets_lease n]

/-- What a link reset does to the ledger: the lease it releases, and the tickets of the link (R54, R169). -/
theorem State.linkReset_ledger (s : State) (n : Link) :
    (s.linkReset n).ledger = ((s.resetTickets n).releaseLease n).ledger := by
  have hbefore : (((s.updPort n Port.discardOutbound).updPort n Port.clearEnables).clearSent n).ledger = s.ledger := by
    rw [State.ledger]
    simp only [State.clearSent_now, State.clearSent_resetPin, State.clearSent_active, State.clearSent_staging,
      State.clearSent_locks, State.clearSent_lease, State.clearSent_tickets, State.clearSent_queues,
      State.clearSent_discard, State.clearSent_bpc]
    rfl
  have hlast (u : State) : (u.updPort n Port.takeDown).ledger = u.ledger := rfl
  unfold State.linkReset
  rw [hlast, State.releaseLease_ledger, State.releaseLease_ledger, State.resetTickets_holdsLease,
    State.resetTickets_holdsLease, State.read_of_ledger hbefore fun u => u.holdsLease n,
    State.read_of_ledger hbefore fun u => (u.resetTickets n).ledger]

theorem State.linkReset_moves (s : State) (n : Link) : s.Moves (s.linkReset n) := by
  have hledger := s.linkReset_ledger n
  rw [State.releaseLease_ledger] at hledger
  split at hledger
  · exact ⟨_, .frees, (State.TicketMove.resets n).works (hledger.trans rfl)⟩
  · exact ((State.TicketMove.resets n).works hledger).moves

theorem State.emptyQueue_ledger (s : State) (n : Link) :
    (s.emptyQueue n).ledger = { s.ledger with queues := s.queues.set n [] } := by
  unfold State.emptyQueue
  dsimp only
  rw [State.reportCount_keeps State.ledger (fun _ _ _ => rfl)]
  rfl

/-- What step 3 of a gate reset does to the ledger (R55, R100). -/
theorem State.resetWork_ledger (s : State) :
    s.resetWork.ledger =
      { s.ledger with tickets := Vector.ofFn fun t => s.tickets[t].gateReset, queues := ⟨[], []⟩ } := by
  have hqueues : (State.emptyQueue { s with tickets := Vector.ofFn fun t => s.tickets[t].gateReset } .l0).queues =
      s.queues.set .l0 [] := congrArg Ledger.queues (State.emptyQueue_ledger _ _)
  unfold State.resetWork
  rw [State.emptyQueue_ledger, hqueues, State.emptyQueue_ledger]
  rfl

theorem State.gateReset_ledger (s : State) : s.gateReset.ledger = s.flushDirect.resetWork.ledger := by
  have hpointer (u : State) : ({ u with pointer := .wq0 } : State).ledger = u.ledger := rfl
  have hnotices (u : State) : u.clearNotices.resetWork.ledger = u.resetWork.ledger := by
    rw [State.resetWork_ledger, State.resetWork_ledger]
    rfl
  unfold State.gateReset
  rw [hpointer, State.resetProbes_ledger, hnotices]

theorem State.gateReset_works (s : State) : s.Works s.gateReset := State.TicketMove.clears.works s.gateReset_ledger

/-! ### Every act is two moves -/

theorem State.Act.moves {s t : State} (h : s.Act t) : s.Moves t := by
  cases h with
  | quiet h => exact (State.works_of_ledger (State.ledger_of_books h)).moves
  | raises d => exact (State.works_of_ledger (s.raise_ledger d)).moves
  | emits n => exact (State.works_of_ledger (s.emitAll_ledger n)).moves
  | acks k => exact (State.works_of_ledger rfl).moves
  | resets n => exact s.linkReset_moves n
  | restarts n =>
    obtain ⟨u, htable, v, hticket, hv⟩ := s.linkReset_moves n
    exact ⟨u, htable, v, hticket, (State.bringUp_ledger _ n).trans hv⟩
  | admits t r data hold h => exact ((State.TicketMove.admits t r data hold h).works rfl).moves
  | joins n e =>
    refine ((State.TicketMove.carriesOn n (s.queue n ++ [.posted e]) s.bpc (fun k => ?_) rfl fun x hx => .inl hx).works
      rfl).moves
    simp
  | claims t r res d h => exact ((State.TicketMove.claims t r res d h).works rfl).moves
  | cancels t r d h => exact ((State.TicketMove.cancels t r d h).works rfl).moves
  | detaches t r d h => exact ((State.TicketMove.detaches t r d h).works rfl).moves
  | holdEnds t r st e hfirst h =>
    exact ⟨_, .passes e hfirst, (State.TicketMove.holdEnds (s := s.toward e) t r st e h).works rfl⟩
  | discards t r res e hfirst h =>
    exact ⟨_, .passes e hfirst,
      (State.TicketMove.claims (s := s.toward e) t r res (some e) h).works (State.raise_ledger _ _)⟩
  | leaseEnds l hfirst h => exact (State.TableMove.lapses l.expiry hfirst).moves (State.raise_ledger _ _)
  | dropsLease l h => exact State.TableMove.frees.moves (State.raise_ledger _ _)
  | holdsLease n d => exact (State.TableMove.holds n d).moves rfl
  | takesLease n d => exact (State.TableMove.holds n d).moves (State.raise_ledger _ _)
  | stages i c hlease hvalid => exact (State.TableMove.stages i c hlease hvalid).moves rfl
  | commits h => exact (State.TableMove.commits h).moves rfl
  | revokes h => exact ⟨_, .commits h, State.TicketMove.revokes.works rfl⟩
  | locks i l h => exact (State.TableMove.locks i l h).moves rfl
  | selects d => exact (State.TableMove.selects d).moves rfl
  | answers h hnow => exact (h.works hnow).moves
  | timesOut op e hfirst h => exact ⟨_, .passes e hfirst, State.endFailed_works (s := s.toward e) h .timeout⟩
  | grantsQueue n hidle => exact (State.grantQueue_works hidle n).moves
  | grantsProbe hidle => exact (State.grantProbe_works hidle).moves
  | disposes n e rest i hq hslot => exact (State.disposeHead_works hq hslot).moves
  | clears => exact s.gateReset_works.moves

/-- What a command other than FULL_RESET moves. -/
theorem exec_moves {c : Instr} {s t : State} (hfull : ∀ cause, c ≠ .fullReset cause) (hnext : exec c s = .next t) :
    ∃ u : State, u.ledger = s.ledger ∧ u.Moves t := by
  obtain ⟨u, v, hu, hact, hv⟩ := exec_acts hfull hnext
  obtain ⟨w, htable, x, hticket, hx⟩ := hact.moves
  exact ⟨u, State.ledger_of_books hu, w, htable, x, hticket, (State.ledger_of_books hv).trans hx⟩

/-- What a step other than a full reset moves; while RESET is asserted, time alone passes (R1). -/
theorem step_moves {s t : State} (hfull : ¬s.fullResetNext) (hstep : step s = .next t) :
    (s.resetPin = true ∧ (t.ledger = s.ledger ∨ t.ledger = { s.ledger with now := s.now + 1 })) ∨
      (s.resetPin = false ∧ ∃ u : State, u.ledger = s.ledger ∧ u.Moves t) := by
  cases hr : s.resetPin with
  | true =>
    rcases step_acts hfull hstep with ⟨h, _⟩ | ⟨_, h⟩
    · refine .inl ⟨rfl, .inr ((State.ledger_of_books h).trans ?_)⟩
      simp [State.ledger, State.toward]
    · exact .inl ⟨rfl, .inl (State.ledger_of_books (h hr))⟩
  | false =>
    rcases step_acts hfull hstep with ⟨h, hfirst⟩ | ⟨⟨u, v, hu, hact, hv⟩, _⟩
    · have hfirst : s.firstAt (s.now + 1) := hfirst.resolve_left (by simp [hr])
      exact .inr ⟨rfl, s, rfl, (State.TableMove.passes _ hfirst).moves (State.ledger_of_books h)⟩
    · obtain ⟨w, htable, x, hticket, hx⟩ := hact.moves
      exact .inr ⟨rfl, u, State.ledger_of_books hu, w, htable, x, hticket, (State.ledger_of_books hv).trans hx⟩

/-! ### The tickets after a gate reset -/

/-- A ticket after step 1 of a gate reset (R55): a DIRECT one is DEFERRED. -/
def Ticket.flushed (k : Ticket) : Ticket :=
  match k.st with
  | .queued r d (.direct _) => ⟨k.gen, .queued r d .deferred⟩
  | .issued r d (.direct _) => ⟨k.gen, .issued r d .deferred⟩
  | _ => k

theorem State.flushTicket_ticket (s : State) (t k : Fin 24) :
    (s.flushTicket t).ticket k = if k = t then (s.ticket t).flushed else s.ticket k := by
  have hself : s.ticket k = if k = t then s.ticket t else s.ticket k := by
    split
    · next h => rw [h]
    · rfl
  unfold State.flushTicket Ticket.flushed
  cases hst : (s.ticket t).st with
  | queued r d m =>
    cases m with
    | direct e => exact State.setTicketState_ticket _ t k _
    | deferred => exact hself
  | issued r d m =>
    cases m with
    | direct e => exact State.setTicketState_ticket _ t k _
    | deferred => exact hself
  | ready | detached | free => exact hself

theorem Ticket.flushed_of_not_direct {k : Ticket} (h : k.st.isDirect = false) : k.flushed = k := by
  unfold Ticket.flushed
  split
  · next hst => simp [hst, TicketState.isDirect] at h
  · next hst => simp [hst, TicketState.isDirect] at h
  · rfl

theorem Ticket.flushed_not_direct (k : Ticket) : k.flushed.st.isDirect = false := by
  unfold Ticket.flushed
  rcases k with ⟨g, st⟩
  cases st with
  | queued r d m | issued r d m => cases m <;> rfl
  | ready | detached | free => rfl

/-- Each ticket that step 1 passes over is flushed, once or more. -/
theorem State.flushTickets_ticket (ts : List (Fin 24)) (s : State) (k : Fin 24) :
    (ts.foldl State.flushTicket s).ticket k = if k ∈ ts then (s.ticket k).flushed else s.ticket k := by
  induction ts generalizing s with
  | nil => rfl
  | cons t ts ih =>
    have htwice : (s.ticket t).flushed.flushed = (s.ticket t).flushed :=
      Ticket.flushed_of_not_direct (Ticket.flushed_not_direct _)
    rw [List.foldl_cons, ih, s.flushTicket_ticket t k]
    by_cases h : k = t
    · subst h
      simp [htwice]
    · simp [h]

theorem State.flushDirect_ticket (s : State) (k : Fin 24) : s.flushDirect.ticket k = (s.ticket k).flushed := by
  rw [State.flushDirect, State.flushTickets_ticket, if_pos (mem_ticketNumbers k)]

theorem Ticket.gateReset_flushed (k : Ticket) : k.flushed.gateReset = k.gateReset := by
  rcases k with ⟨g, st⟩
  cases st with
  | queued r d m | issued r d m => cases m <;> rfl
  | ready | detached | free => rfl

theorem State.resetWork_ticket (s : State) (k : Fin 24) : s.resetWork.ticket k = (s.ticket k).gateReset := by
  have htickets : s.resetWork.tickets = Vector.ofFn fun t => s.tickets[t].gateReset :=
    congrArg Ledger.tickets s.resetWork_ledger
  simp [State.ticket, htickets]

/-- What a gate reset makes of a ticket, its answer apart (R55). -/
theorem State.flushDirect_resetWork_ticket (s : State) (k : Fin 24) :
    s.flushDirect.resetWork.ticket k = (s.ticket k).gateReset := by
  rw [State.resetWork_ticket, s.flushDirect_ticket k, Ticket.gateReset_flushed]

/-! ### The tickets after a revocation pass -/

theorem Ticket.completed_twice (k : Ticket) (d : Option Nat) (res : Result) :
    (k.completed d res).completed d res = k.completed d res := by
  rcases k with ⟨g, st⟩
  cases st with
  | queued r x m | issued r x m => cases m <;> rfl
  | ready | detached | free => rfl

/-- The ticket entries among those that the pass removes are completed with FAIL(REVOKED) (R96). -/
theorem State.revokeEntries_ticket (n : Link) (es : List WorkEntry) (s : State) (k : Fin 24) :
    (es.foldl (fun s e => s.revokeEntry n e) s).ticket k =
      if .ticketed k ∈ es then (s.ticket k).completed (s.discard.deadline s.now) (.fail .revoked) else s.ticket k := by
  induction es generalizing s with
  | nil => rfl
  | cons e es ih =>
    rw [List.foldl_cons, ih]
    cases e with
    | posted p => simp [State.revokeEntry, State.ticket, State.updFlushed]
    | ticketed t =>
      have hdeadline : (s.complete t (.fail .revoked)).discard.deadline (s.complete t (.fail .revoked)).now =
          s.discard.deadline s.now := by rw [State.complete_discard, State.complete_now]
      simp only [State.revokeEntry, hdeadline, s.complete_ticket t k]
      by_cases h : k = t
      · subst h
        simp [Ticket.completed_twice]
      · simp [h]

/-- An entry of a work queue that fails the test of the pass names the ticket (R95). -/
def State.revokes (s : State) (k : Fin 24) : Prop :=
  ∃ n, .ticketed k ∈ s.queue n ∧ s.survives n (.ticketed k) = false

theorem State.revokeQueue_ticket (s : State) (n : Link) (k : Fin 24) :
    (s.revokeQueue n).ticket k =
      if .ticketed k ∈ s.queue n ∧ s.survives n (.ticketed k) = false then
        (s.ticket k).completed (s.discard.deadline s.now) (.fail .revoked)
      else s.ticket k := by
  unfold State.revokeQueue
  dsimp only
  rw [State.revokeEntries_ticket]
  simp only [List.mem_filter, Bool.not_eq_true']
  rfl

/-! ### The law of the places of tickets (law 4, R31) -/

/-- The request that a ticket has on the backplane: that of an ISSUED or DETACHED one. -/
def TicketState.onBus? : TicketState → Option Request
  | .issued r _ _ => some r
  | .detached r => some r
  | _ => none

/-- Law 4 read the other way round: what the queues and the controller name, by the state of each ticket. -/
structure State.TicketsPlaced (s : State) : Prop where
  entries : ∀ n k, s.entriesOf n k = ((s.ticket k).st.isQueuedOf n).toNat
  progress : ∀ k q, s.ticketInProgress = some (k, q) ↔ (s.ticket k).st.onBus? = some q

theorem TicketState.isQueuedOf_queued (r : Request) (d : List Byte) (m : ReplyMode) (n : Link) :
    (TicketState.queued r d m).isQueuedOf n = decide (r.owner = n) := rfl

theorem State.TicketPlaced.entries {s : State} {k : Fin 24} (h : s.TicketPlaced k) (n : Link) :
    s.entriesOf n k = ((s.ticket k).st.isQueuedOf n).toNat := by
  unfold State.TicketPlaced at h
  cases hst : (s.ticket k).st with
  | queued r d m =>
    rw [hst] at h
    obtain ⟨howner, hother, _⟩ := h
    rw [TicketState.isQueuedOf_queued]
    cases n <;> cases hr : r.owner <;> simp_all [Link.other]
  | issued | ready | detached | free =>
    rw [hst] at h
    obtain ⟨h0, h1, _⟩ := h
    cases n
    · exact h0
    · exact h1

theorem State.TicketPlaced.progress {s : State} {k : Fin 24} (h : s.TicketPlaced k) (q : Request) :
    s.ticketInProgress = some (k, q) ↔ (s.ticket k).st.onBus? = some q := by
  unfold State.TicketPlaced at h
  cases hst : (s.ticket k).st with
  | queued | ready | free =>
    rw [hst] at h
    obtain ⟨_, _, hnone⟩ := h
    exact ⟨fun hq => absurd hq (hnone q), nofun⟩
  | issued | detached =>
    rw [hst] at h
    obtain ⟨_, _, hsome⟩ := h
    rw [hsome]
    simp [TicketState.onBus?]

theorem State.ticketLaw_iff (s : State) : s.TicketLaw ↔ s.TicketsPlaced := by
  refine ⟨fun h => ⟨fun n k => (h k).entries n, fun k q => (h k).progress q⟩, fun ⟨hentries, hprogress⟩ k => ?_⟩
  have hqueues := fun n => hentries n k
  have hbus := hprogress k
  unfold State.TicketPlaced
  cases hst : (s.ticket k).st with
  | queued r d m =>
    simp only [hst, TicketState.isQueuedOf_queued, TicketState.onBus?] at hqueues hbus
    refine ⟨by simp [hqueues], ?_, fun q hq => by simpa using (hbus q).1 hq⟩
    rw [hqueues]
    cases r.owner <;> rfl
  | issued r d m =>
    simp only [hst, TicketState.isQueuedOf, TicketState.onBus?] at hqueues hbus
    exact ⟨hqueues .l0, hqueues .l1, (hbus r).2 rfl⟩
  | detached r =>
    simp only [hst, TicketState.isQueuedOf, TicketState.onBus?] at hqueues hbus
    exact ⟨hqueues .l0, hqueues .l1, (hbus r).2 rfl⟩
  | ready r x d =>
    simp only [hst, TicketState.isQueuedOf, TicketState.onBus?] at hqueues hbus
    exact ⟨hqueues .l0, hqueues .l1, fun q hq => by simpa using (hbus q).1 hq⟩
  | free =>
    simp only [hst, TicketState.isQueuedOf, TicketState.onBus?] at hqueues hbus
    exact ⟨hqueues .l0, hqueues .l1, fun q hq => by simpa using (hbus q).1 hq⟩

theorem TicketState.isQueuedOf_eq_true {st : TicketState} {n : Link} (h : st.isQueuedOf n = true) :
    ∃ r d m, st = .queued r d m ∧ r.owner = n := by
  cases st with
  | queued r d m => exact ⟨r, d, m, rfl, of_decide_eq_true h⟩
  | issued | ready | detached | free => cases h

theorem State.TicketsPlaced.mem_queue_iff {s : State} (hs : s.TicketsPlaced) (n : Link) (k : Fin 24) :
    .ticketed k ∈ s.queue n ↔ ∃ r d m, (s.ticket k).st = .queued r d m ∧ r.owner = n := by
  rw [← List.one_le_count_iff, show (s.queue n).count (.ticketed k) = _ from hs.entries n k]
  refine ⟨fun h => TicketState.isQueuedOf_eq_true ?_, ?_⟩
  · cases hq : (s.ticket k).st.isQueuedOf n with
    | true => rfl
    | false => rw [hq] at h; exact absurd h (by decide)
  · rintro ⟨r, d, m, hst, rfl⟩
    simp [hst, TicketState.isQueuedOf_queued]

/-- The law reads the tickets, the queues and the controller alone. -/
theorem State.TicketsPlaced.of_ledger {s t : State} (hs : s.TicketsPlaced) (h : t.ledger = s.ledger) :
    t.TicketsPlaced := by
  refine ⟨fun n k => ?_, fun k q => ?_⟩
  · rw [State.read_of_ledger h fun u => u.entriesOf n k, State.read_of_ledger h fun u => (u.ticket k).st]
    exact hs.entries n k
  · rw [State.read_of_ledger h fun u => u.ticketInProgress, State.read_of_ledger h fun u => (u.ticket k).st]
    exact hs.progress k q

/-! ### The revocation pass as a whole -/

theorem State.survives_ticketed_congr {s t : State} (hactive : t.active = s.active) {k : Fin 24}
    (hticket : t.ticket k = s.ticket k) (n : Link) :
    t.survives n (.ticketed k) = s.survives n (.ticketed k) := by
  simp only [State.survives, hactive, hticket]

theorem State.survives_of_not_queued {s : State} {k : Fin 24} (h : ∀ r d m, (s.ticket k).st ≠ .queued r d m)
    (n : Link) :
    s.survives n (.ticketed k) = true := by
  unfold State.survives
  dsimp only
  split
  · next hst => exact absurd hst (h _ _ _)
  · rfl

theorem Ticket.completed_not_queued (k : Ticket) (deadline : Option Nat) (res : Result) (r : Request) (d : List Byte)
    (m : ReplyMode) : (k.completed deadline res).st ≠ .queued r d m := by
  rcases k with ⟨g, st⟩
  cases st with
  | queued r x m | issued r x m => cases m <;> exact nofun
  | ready | detached | free => exact nofun

theorem State.revokeQueue_active (s : State) (n : Link) : (s.revokeQueue n).active = s.active :=
  State.revokeQueue_keeps State.active (fun _ _ _ => rfl) (fun _ _ => rfl) (fun _ _ => rfl) (fun _ _ => rfl) s n

theorem State.revokeQueue_deadline (s : State) (n : Link) :
    (s.revokeQueue n).discard.deadline (s.revokeQueue n).now = s.discard.deadline s.now :=
  State.revokeQueue_keeps (fun s => s.discard.deadline s.now) (fun _ _ _ => rfl) (fun _ _ => rfl) (fun _ _ => rfl)
    (fun _ _ => rfl) s n

theorem State.revokeQueue_queue (s : State) (n m : Link) :
    (s.revokeQueue n).queue m = if m = n then (s.queue n).filter fun e => s.survives n e else s.queue m := by
  unfold State.revokeQueue
  dsimp only
  rw [State.revokeEntries_keeps (·.queue m) (fun _ _ _ => rfl) (fun _ _ => rfl) (fun _ _ => rfl), s.setQueue_queue n m]

/-- The pass over WQ1 finds there what the pass over WQ0 has left (R95): the tickets it has completed are not QUEUED. -/
theorem State.revokeQueue_survives (s : State) (k : Fin 24) :
    (s.revokeQueue .l0).survives .l1 (.ticketed k) = false ↔
      ¬(.ticketed k ∈ s.queue .l0 ∧ s.survives .l0 (.ticketed k) = false) ∧
        s.survives .l1 (.ticketed k) = false := by
  have hticket := s.revokeQueue_ticket .l0 k
  by_cases hfails : .ticketed k ∈ s.queue .l0 ∧ s.survives .l0 (.ticketed k) = false
  · rw [if_pos hfails] at hticket
    have hsurvives := State.survives_of_not_queued (s := s.revokeQueue .l0) (k := k)
      (by rw [hticket]; exact Ticket.completed_not_queued _ _ _) .l1
    simp [hsurvives, hfails]
  · rw [if_neg hfails] at hticket
    rw [State.survives_ticketed_congr (s.revokeQueue_active .l0) hticket]
    simp only [hfails, not_false_eq_true, true_and]

theorem State.revoke_ticket_eq (s : State) (k : Fin 24) :
    s.revoke.ticket k = ((s.revokeQueue .l0).revokeQueue .l1).ticket k := by
  unfold State.revoke
  exact (State.reportCount_keeps (·.ticket k) (fun _ _ _ => rfl) _ _ _).trans
    (State.reportCount_keeps (·.ticket k) (fun _ _ _ => rfl) _ _ _)

theorem State.revoke_queue_eq (s : State) (n : Link) :
    s.revoke.queue n = ((s.revokeQueue .l0).revokeQueue .l1).queue n := by
  unfold State.revoke
  exact (State.reportCount_keeps (·.queue n) (fun _ _ _ => rfl) _ _ _).trans
    (State.reportCount_keeps (·.queue n) (fun _ _ _ => rfl) _ _ _)

/-- A ticket that an entry names which fails the test is completed with FAIL(REVOKED) (R96). -/
theorem State.revoke_ticket_of_revokes {s : State} {k : Fin 24} (h : s.revokes k) :
    s.revoke.ticket k = (s.ticket k).completed (s.discard.deadline s.now) (.fail .revoked) := by
  have hqueue : (s.revokeQueue .l0).queue .l1 = s.queue .l1 := s.revokeQueue_queue .l0 .l1
  simp only [s.revoke_ticket_eq, State.revokeQueue_ticket, hqueue, s.revokeQueue_survives, s.revokeQueue_deadline]
  by_cases h0 : .ticketed k ∈ s.queue .l0 ∧ s.survives .l0 (.ticketed k) = false
  · simp [h0]
  · have h1 : .ticketed k ∈ s.queue .l1 ∧ s.survives .l1 (.ticketed k) = false := by
      obtain ⟨n, hn⟩ := h
      cases n with
      | l0 => exact absurd hn h0
      | l1 => exact hn
    simp only [h0, h1, not_false_eq_true, and_self, if_true, if_false]

theorem State.revoke_ticket_of_not_revokes {s : State} {k : Fin 24} (h : ¬s.revokes k) :
    s.revoke.ticket k = s.ticket k := by
  have hqueue : (s.revokeQueue .l0).queue .l1 = s.queue .l1 := s.revokeQueue_queue .l0 .l1
  have h0 : ¬(.ticketed k ∈ s.queue .l0 ∧ s.survives .l0 (.ticketed k) = false) := fun hn => h ⟨.l0, hn⟩
  have h1 : ¬(.ticketed k ∈ s.queue .l1 ∧ s.survives .l1 (.ticketed k) = false) := fun hn => h ⟨.l1, hn⟩
  simp only [s.revoke_ticket_eq, State.revokeQueue_ticket, hqueue, s.revokeQueue_survives, h0, if_false,
    not_false_eq_true, true_and, h1]

/-- A ticket that the pass completes is QUEUED. -/
theorem State.queued_of_revokes {s : State} {k : Fin 24} (h : s.revokes k) :
    ∃ r d m, (s.ticket k).st = .queued r d m := by
  by_contra hnone
  obtain ⟨n, _, hfails⟩ := h
  rw [State.survives_of_not_queued (fun r d m hst => hnone ⟨r, d, m, hst⟩) n] at hfails
  cases hfails

/-- Under law 4 the two passes are over two sets of tickets, and each queue keeps what survives the test (R96). -/
theorem State.TicketsPlaced.revoke_queue {s : State} (hs : s.TicketsPlaced) (n : Link) :
    s.revoke.queue n = (s.queue n).filter fun e => s.survives n e := by
  rw [s.revoke_queue_eq, State.revokeQueue_queue]
  cases n with
  | l0 => exact (if_neg (by decide)).trans (s.revokeQueue_queue .l0 .l0)
  | l1 =>
    rw [if_pos rfl, show (s.revokeQueue .l0).queue .l1 = s.queue .l1 from s.revokeQueue_queue .l0 .l1]
    refine List.filter_congr fun e he => ?_
    cases e with
    | posted p => exact State.survives_posted_congr (s.revokeQueue_active .l0) .l1 p
    | ticketed k =>
      have h0 : ¬(.ticketed k ∈ s.queue .l0 ∧ s.survives .l0 (.ticketed k) = false) := by
        rintro ⟨hmem, _⟩
        obtain ⟨r, d, m, hst, howner⟩ := (hs.mem_queue_iff .l0 k).1 hmem
        obtain ⟨r', d', m', hst', howner'⟩ := (hs.mem_queue_iff .l1 k).1 he
        rw [hst] at hst'
        cases hst'
        rw [howner] at howner'
        cases howner'
      have hticket := (s.revokeQueue_ticket .l0 k).trans (if_neg h0)
      exact State.survives_ticketed_congr (s.revokeQueue_active .l0) hticket .l1

/-! ### What becomes of one ticket -/

/-- Everything that becomes of a ticket in one move, apart from its admission, under a discard selection and at a point
in time. -/
inductive Ticket.Change (sel : DiscardSelection) (now : Nat) (a : Ticket) : Ticket → Prop where
  | stays : Change sel now a a
  | issues (r : Request) (d : List Byte) (m : ReplyMode) (h : a.st = .queued r d m) :
    Change sel now a ⟨a.gen, .issued r d m⟩
  | holdEnds (r : Request) (d : List Byte) (e : Nat) (h : a.st = .queued r d (.direct e)) :
    Change sel now a ⟨a.gen, .queued r d .deferred⟩
  | holdEndsIssued (r : Request) (d : List Byte) (e : Nat) (h : a.st = .issued r d (.direct e)) :
    Change sel now a ⟨a.gen, .issued r d .deferred⟩
  | detaches (r : Request) (d : List Byte) (m : ReplyMode) (h : a.st = .issued r d m) :
    Change sel now a ⟨a.gen, .detached r⟩
  | readies (r : Request) (d : List Byte) (res : Result)
    (h : a.st = .queued r d .deferred ∨ a.st = .issued r d .deferred) :
    Change sel now a ⟨a.gen, .ready r res (sel.deadline now)⟩
  | frees (h : a.st ≠ .free) : Change sel now a a.freed

section
variable {sel : DiscardSelection} {now : Nat} {a b : Ticket}

theorem Ticket.change_completed (a : Ticket) (res : Result) :
    a.Change sel now (a.completed (sel.deadline now) res) := by
  rcases a with ⟨g, st⟩
  cases st with
  | queued r d m =>
    cases m with
    | direct e => exact .frees nofun
    | deferred => exact .readies r d res (.inl rfl)
  | issued r d m =>
    cases m with
    | direct e => exact .frees nofun
    | deferred => exact .readies r d res (.inr rfl)
  | detached r => exact .frees nofun
  | ready | free => exact .stays

theorem Ticket.change_linkReset (a : Ticket) (n : Link) : a.Change sel now (a.linkReset n) := by
  rcases a with ⟨g, st⟩
  unfold Ticket.linkReset
  cases st with
  | queued r d m | ready r x d =>
    dsimp only
    split
    · exact .frees nofun
    · exact .stays
  | issued r d m =>
    dsimp only
    split
    · exact .detaches r d m rfl
    · exact .stays
  | detached | free => exact .stays

theorem Ticket.change_gateReset (a : Ticket) : a.Change sel now a.gateReset := by
  rcases a with ⟨g, st⟩
  cases st with
  | queued | ready => exact .frees nofun
  | issued r d m => exact .detaches r d m rfl
  | detached | free => exact .stays

/-- The generation advances exactly when a ticket becomes FREE (R32). -/
theorem Ticket.Change.gen_eq (h : a.Change sel now b) :
    b.gen = if a.st ≠ .free ∧ b.st = .free then a.gen + 1 else a.gen := by
  cases h with
  | stays => exact (if_neg fun ⟨hne, he⟩ => hne he).symm
  | frees h => exact (if_pos ⟨h, rfl⟩).symm
  | issues | holdEnds | holdEndsIssued | detaches | readies => exact (if_neg fun ⟨_, he⟩ => nomatch he).symm

/-- A ticket in DIRECT mode has been in it under the same owner (R37). -/
theorem Ticket.Change.isDirect (h : a.Change sel now b) (hb : b.st.isDirect = true) :
    a.st.isDirect = true ∧ a.st.owner? = b.st.owner? := by
  cases h with
  | stays => exact ⟨hb, rfl⟩
  | issues r d m h =>
    rw [h]
    cases m with
    | direct e => exact ⟨rfl, rfl⟩
    | deferred => cases hb
  | holdEnds | holdEndsIssued | detaches | readies | frees => cases hb

theorem DiscardSelection.now_le_deadline {x : Nat} (h : sel.deadline now = some x) : now ≤ x := by
  cases sel <;> cases h <;> omega

/-- A timer that runs at a ticket has run there before, or has been started now (R39, R50). -/
theorem Ticket.Change.timerEnd (h : a.Change sel now b) {x : Nat} (hx : b.st.timerEnd? = some x) :
    a.st.timerEnd? = some x ∨ now ≤ x := by
  cases h with
  | stays => exact .inl hx
  | issues r d m h =>
    refine .inl ?_
    rw [h]
    cases m <;> exact hx
  | readies r d res h => exact .inr (DiscardSelection.now_le_deadline hx)
  | holdEnds | holdEndsIssued | detaches | frees => cases hx

/-- A READY ticket keeps its result and its deadline until it is freed (law 3, R44). -/
theorem Ticket.Change.of_ready (h : a.Change sel now b) {r : Request} {res : Result} {d : Option Nat}
    (ha : a.st = .ready r res d) : b = a ∨ b.st = .free := by
  cases h with
  | stays => exact .inl rfl
  | frees h => exact .inr rfl
  | issues r d m h => rw [ha] at h; cases h
  | holdEnds r d e h => rw [ha] at h; cases h
  | holdEndsIssued r d e h => rw [ha] at h; cases h
  | detaches r d m h => rw [ha] at h; cases h
  | readies r d res h => rw [ha] at h; rcases h with h | h <;> cases h

/-- A ticket that becomes READY takes the deadline of the discard selection (R43, R49). -/
theorem Ticket.Change.to_ready (h : a.Change sel now b) {r : Request} {res : Result} {d : Option Nat}
    (hb : b.st = .ready r res d) (ha : ∀ r' res' d', a.st ≠ .ready r' res' d') : d = sel.deadline now := by
  cases h with
  | stays => exact absurd hb (ha _ _ _)
  | readies => cases hb; rfl
  | issues | holdEnds | holdEndsIssued | detaches | frees => cases hb

end

/-! ### The tickets under a move -/

theorem State.allocate_ticket (s : State) (t k : Fin 24) (r : Request) (data : List Byte) (hold : Option Nat) :
    (s.allocate t r data hold).ticket k =
      if k = t then ⟨(s.ticket t).gen, .queued r data (s.startMode r.owner hold)⟩ else s.ticket k := by
  unfold State.allocate
  cases s.startMode r.owner hold <;> exact s.setTicketState_ticket t k _

theorem State.free_of_lowestFree {s : State} {t : Fin 24} (h : s.lowestFree = some t) : (s.ticket t).st = .free := by
  simpa using List.find?_some h

/-- A move other than an admission changes each ticket in one of the ways above. -/
theorem State.TicketMove.changes {s v : State} (h : s.TicketMove v) :
    (∃ t r data hold, s.lowestFree = some t ∧ v = s.allocate t r data hold) ∨
      ∀ k, (s.ticket k).Change s.discard s.now (v.ticket k) := by
  have hone {t : Fin 24} {a : Ticket} (ha : (s.ticket t).Change s.discard s.now a)
      (hv : ∀ k, v.ticket k = if k = t then a else s.ticket k) (k : Fin 24) :
      (s.ticket k).Change s.discard s.now (v.ticket k) := by
    rw [hv k]
    split
    · next hk =>
      rw [hk]
      exact ha
    · exact .stays
  cases h with
  | admits t r data hold h => exact .inl ⟨t, r, data, hold, h, rfl⟩
  | carriesOn => exact .inr fun k => .stays
  | finishes t r res h => exact .inr (hone (Ticket.change_completed _ res) fun k => s.complete_ticket t k res)
  | disposes n t rest res => exact .inr (hone (Ticket.change_completed _ res) fun k => State.complete_ticket _ t k res)
  | grants n t rest r d m hq hst =>
    exact .inr (hone (.issues r d m hst) fun k => State.setTicketState_ticket (s.setQueue n rest) t k _)
  | claims t r res d h =>
    exact .inr (hone (.frees (by rw [h]; exact nofun)) fun k => s.freeTicket_ticket t k)
  | cancels t r d h =>
    exact .inr (hone (.frees (by rw [h]; exact nofun)) fun k => State.freeTicket_ticket (s.dropEntry r.owner t) t k)
  | detaches t r d h => exact .inr (hone (.detaches r d _ h) fun k => s.setTicketState_ticket t k _)
  | holdEnds t r st e h =>
    refine .inr (hone (a := ⟨(s.ticket t).gen, st⟩) ?_ fun k => s.setTicketState_ticket t k _)
    obtain ⟨d, ⟨hst, rfl⟩ | ⟨hst, rfl⟩⟩ := h
    · exact .holdEnds r d e hst
    · exact .holdEndsIssued r d e hst
  | revokes =>
    refine .inr fun k => ?_
    by_cases hk : s.revokes k
    · rw [State.revoke_ticket_of_revokes hk]
      exact Ticket.change_completed _ _
    · rw [State.revoke_ticket_of_not_revokes hk]
      exact .stays
  | resets n =>
    refine .inr fun k => ?_
    rw [s.resetTickets_ticket n k]
    exact Ticket.change_linkReset _ n
  | clears =>
    refine .inr fun k => ?_
    rw [s.flushDirect_resetWork_ticket k]
    exact Ticket.change_gateReset _

/-! ### What the two kinds of moves leave -/

/-- The parts of a ledger that no move of the tickets writes. -/
abbrev Ledger.Tables := (Nat × Bool × DiscardSelection) × Vector (Option WindowRecord) 32 ×
  Vector StagingCell 32 × Vector LockLevel 32 × Option Lease

def Ledger.tables (a : Ledger) : Ledger.Tables :=
  ((a.now, a.resetPin, a.discard), a.active, a.staging, a.locks, a.lease)

theorem State.ledger_tables (s : State) :
    s.ledger.tables = ((s.now, s.resetPin, s.discard), s.active, s.staging, s.locks, s.lease) := rfl

theorem Ledger.tables_withWork (a : Ledger) (x : Vector Ticket 24) (q : PerLink (List WorkEntry)) (b : BpcState) :
    ({ a with tickets := x, queues := q, bpc := b } : Ledger).tables = a.tables := rfl

theorem State.complete_tables (s : State) (t : Fin 24) (res : Result) :
    (s.complete t res).ledger.tables = s.ledger.tables := by
  rw [s.complete_ledger t res]
  rfl

theorem State.revoke_tables (s : State) : s.revoke.ledger.tables = s.ledger.tables :=
  State.revoke_keeps (·.ledger.tables) (fun _ _ _ => rfl) (fun _ _ _ => rfl) (fun _ _ => rfl) (fun _ _ => rfl)
    (fun _ _ => rfl) s

theorem State.flushDirect_resetWork_tables (s : State) : s.flushDirect.resetWork.ledger.tables = s.ledger.tables := by
  rw [State.resetWork_ledger, Ledger.tables_withWork]
  exact State.flushDirect_keeps (·.ledger.tables) (fun _ _ _ => rfl) (fun _ _ => rfl) s

theorem State.allocate_tables (s : State) (t : Fin 24) (r : Request) (data : List Byte) (hold : Option Nat) :
    (s.allocate t r data hold).ledger.tables = s.ledger.tables :=
  State.allocate_keeps (·.ledger.tables) (fun _ _ => rfl) (fun _ _ => rfl) (fun _ _ _ => rfl) s t r data hold

theorem State.TicketMove.tables {s v : State} (h : s.TicketMove v) : v.ledger.tables = s.ledger.tables := by
  cases h with
  | carriesOn | claims | cancels | detaches | holdEnds | grants => rfl
  | resets n =>
    simp only [State.ledger_tables, State.resetTickets_now, State.resetTickets_resetPin, State.resetTickets_discard,
      State.resetTickets_active, State.resetTickets_staging, State.resetTickets_locks, State.resetTickets_lease]
  | admits t r data hold => exact s.allocate_tables t r data hold
  | finishes t r res => rw [State.toIdle_ledger, Ledger.tables_withWork, s.complete_tables t res]
  | disposes n t rest res => exact State.complete_tables _ t res
  | revokes => exact s.revoke_tables
  | clears => exact s.flushDirect_resetWork_tables

/-- The parts of a ledger that no move of the tables writes. -/
abbrev Ledger.Work := Vector Ticket 24 × PerLink (List WorkEntry) × BpcState

def Ledger.work (a : Ledger) : Ledger.Work := (a.tickets, a.queues, a.bpc)

theorem State.ledger_work (s : State) : s.ledger.work = (s.tickets, s.queues, s.bpc) := rfl

theorem State.TableMove.work {s u : State} (h : s.TableMove u) : u.ledger.work = s.ledger.work := by
  cases h with
  | commits h =>
    simp only [State.ledger_work, State.applyCommit_tickets, State.applyCommit_queues, State.applyCommit_bpc]
  | lapses e => rfl
  | stays | passes | stages | locks | holds | frees | selects => rfl

theorem State.ticket_of_work {s u : State} (h : u.ledger.work = s.ledger.work) (k : Fin 24) : u.ticket k = s.ticket k :=
  congrArg (fun w : Ledger.Work => w.1[k]) h

/-! ### Generations, and the one DIRECT ticket of a link -/

theorem State.isDirect_startMode {s : State} {n : Link} {hold : Option Nat} {r : Request} {data : List Byte}
    (h : (TicketState.queued r data (s.startMode n hold)).isDirect = true) : s.holdsDirect n = false := by
  unfold State.startMode at h
  cases hold with
  | none => cases h
  | some us =>
    cases hd : s.holdsDirect n with
    | false => rfl
    | true => simp [hd, TicketState.isDirect] at h

theorem State.allocate_gen (s : State) {t : Fin 24} (r : Request) (data : List Byte) (hold : Option Nat)
    (k : Fin 24) (h : (s.ticket t).st = .free) :
    ((s.allocate t r data hold).ticket k).gen = (s.ticket k).gen ∧
      (((s.allocate t r data hold).ticket k).st = .free → (s.ticket k).st = .free) := by
  rw [s.allocate_ticket t k r data hold]
  split
  · next hk =>
    subst hk
    exact ⟨rfl, nofun⟩
  · exact ⟨rfl, id⟩

/-- Settles O26: each way in which a ticket changes advances the generation exactly when it frees the ticket. -/
theorem generationsAdvanceAtEachFreeing : Obligations.GenerationsAdvanceAtEachFreeing := by
  intro c s u hfull hnext k
  obtain ⟨s0, h0, s1, htable, v, hticket, hu⟩ := exec_moves hfull hnext
  have hbefore : s1.ticket k = s.ticket k :=
    (State.ticket_of_work htable.work k).trans (State.read_of_ledger h0 fun s => s.ticket k)
  rw [State.read_of_ledger hu fun s => s.ticket k, ← hbefore]
  rcases hticket.changes with ⟨t, r, data, hold, hfree, rfl⟩ | hchange
  · obtain ⟨hgen, hstays⟩ := s1.allocate_gen r data hold k (State.free_of_lowestFree hfree)
    rw [hgen, if_neg fun ⟨hne, he⟩ => hne (hstays he)]
  · exact (hchange k).gen_eq

/-- The law reads the tickets alone. -/
theorem State.directLaw_of_tickets {s t : State} (hs : s.DirectLaw) (h : ∀ k, t.ticket k = s.ticket k) :
    t.DirectLaw := by
  intro n k j
  rw [h k, h j]
  exact hs n k j

theorem State.holdsDirect_of_ticket {s : State} {n : Link} {k : Fin 24} (hdirect : (s.ticket k).st.isDirect = true)
    (howner : (s.ticket k).st.owner? = some n) : s.holdsDirect n = true := by
  unfold State.holdsDirect
  rw [List.any_eq_true]
  exact ⟨k, mem_ticketNumbers k, by simp [hdirect, howner]⟩

/-- An admission in DIRECT mode is to a link that holds no DIRECT ticket (R37). -/
theorem State.allocate_directLaw {s : State} (hs : s.DirectLaw) (t : Fin 24) (r : Request) (data : List Byte)
    (hold : Option Nat) : (s.allocate t r data hold).DirectLaw := by
  have hold_of_ne {n : Link} {k j : Fin 24} (hk : k = t) (hj : j ≠ t)
      (hkd : ((s.allocate t r data hold).ticket k).st.isDirect = true)
      (hko : ((s.allocate t r data hold).ticket k).st.owner? = some n)
      (hjd : ((s.allocate t r data hold).ticket j).st.isDirect = true)
      (hjo : ((s.allocate t r data hold).ticket j).st.owner? = some n) : False := by
    rw [State.allocate_ticket, if_neg hj] at hjd hjo
    rw [State.allocate_ticket, if_pos hk] at hkd hko
    have hn : r.owner = n := by simpa [TicketState.owner?, TicketState.request?] using hko
    have hnone := State.isDirect_startMode hkd
    rw [hn, State.holdsDirect_of_ticket hjd hjo] at hnone
    cases hnone
  intro n k j hkd hko hjd hjo
  by_cases hk : k = t
  · by_cases hj : j = t
    · rw [hk, hj]
    · exact (hold_of_ne hk hj hkd hko hjd hjo).elim
  · by_cases hj : j = t
    · exact (hold_of_ne hj hk hjd hjo hkd hko).elim
    · rw [State.allocate_ticket, if_neg hk] at hkd hko
      rw [State.allocate_ticket, if_neg hj] at hjd hjo
      exact hs n k j hkd hko hjd hjo

theorem State.TicketMove.directLaw {s v : State} (h : s.TicketMove v) (hs : s.DirectLaw) : v.DirectLaw := by
  rcases h.changes with ⟨t, r, data, hold, _, rfl⟩ | hchange
  · exact State.allocate_directLaw hs t r data hold
  · intro n k j hkd hko hjd hjo
    obtain ⟨hkd', hk⟩ := (hchange k).isDirect hkd
    obtain ⟨hjd', hj⟩ := (hchange j).isDirect hjd
    exact hs n k j hkd' (hk.trans hko) hjd' (hj.trans hjo)

theorem State.reset_ticket (k : Fin 24) : (State.reset.ticket k).st = .free := by
  simp [State.ticket, State.reset, Ticket.reset]

theorem State.ticket_of_books_cleared {s t : State} {b : Bool} (h : t.books = (s.cleared b).books) (k : Fin 24) :
    (t.ticket k).st = .free := by
  rw [State.read_of_ledger (State.ledger_of_books h) fun s => s.ticket k]
  exact State.reset_ticket k

/-- What a step does to the tickets: nothing, one move after a move of the tables, or their values after reset. -/
theorem step_tickets {s t : State} (hstep : step s = .next t) :
    (∀ k, t.ticket k = s.ticket k) ∨
      (∃ u v : State, (∀ k, u.ticket k = s.ticket k) ∧ u.TicketMove v ∧ t.ledger = v.ledger) ∨
      ∀ k, (t.ticket k).st = .free := by
  by_cases hfull : s.fullResetNext
  · rcases step_fullReset hfull hstep with ⟨b, h, _⟩ | ⟨b, h⟩
    · exact .inl fun k => State.read_of_ledger (State.ledger_of_books h) fun s => s.ticket k
    · exact .inr (.inr (State.ticket_of_books_cleared h))
  · rcases step_moves hfull hstep with ⟨_, h | h⟩ | ⟨_, u, hu, w, htable, v, hticket, hv⟩
    · exact .inl fun k => State.read_of_ledger h fun s => s.ticket k
    · exact .inl fun k => State.ticket_of_work ((congrArg Ledger.work h).trans rfl) k
    · exact .inr (.inl ⟨w, v, fun k => (State.ticket_of_work htable.work k).trans
        (State.read_of_ledger hu fun s => s.ticket k), hticket, hv⟩)

/-- Settles O28: only an admission makes a ticket DIRECT, and it looks for another one before. -/
theorem oneDirectTicketALink : Obligations.OneDirectTicketALink := by
  intro s t hs hstep
  rcases step_tickets hstep with hsame | ⟨u, v, hu, hmove, hv⟩ | hfree
  · exact State.directLaw_of_tickets hs hsame
  · have hlaw := hmove.directLaw (State.directLaw_of_tickets hs hu)
    exact State.directLaw_of_tickets hlaw fun k => State.read_of_ledger hv fun s => s.ticket k
  · intro n k j hk
    rw [hfree k] at hk
    cases hk

/-! ### Law 4 under each move of the tickets -/

/-- Where the entries and the ticket on the backplane follow the tickets, the law goes on. -/
theorem State.TicketsPlaced.of_places {s t : State} (hs : s.TicketsPlaced)
    (hentries : ∀ n k, t.entriesOf n k = s.entriesOf n k) (hprogress : t.ticketInProgress = s.ticketInProgress)
    (hqueued : ∀ n k, (t.ticket k).st.isQueuedOf n = (s.ticket k).st.isQueuedOf n)
    (hbus : ∀ k, (t.ticket k).st.onBus? = (s.ticket k).st.onBus?) : t.TicketsPlaced :=
  ⟨fun n k => by rw [hentries n k, hqueued n k, hs.entries n k], fun k q => by
    rw [hprogress, hbus k, hs.progress k q]⟩

/-- A change of one ticket that leaves its place leaves the law. -/
theorem State.TicketsPlaced.of_ticket {s t : State} (hs : s.TicketsPlaced) {j : Fin 24} {a : Ticket}
    (hticket : ∀ k, t.ticket k = if k = j then a else s.ticket k) (hqueue : ∀ n, t.queue n = s.queue n)
    (hprogress : t.ticketInProgress = s.ticketInProgress)
    (hqueued : ∀ n, a.st.isQueuedOf n = (s.ticket j).st.isQueuedOf n)
    (hbus : a.st.onBus? = (s.ticket j).st.onBus?) : t.TicketsPlaced := by
  refine hs.of_places (fun n k => ?_) hprogress (fun n k => ?_) fun k => ?_
  · unfold State.entriesOf
    rw [hqueue n]
  · rw [hticket k]
    split
    · next h => rw [h, hqueued n]
    · rfl
  · rw [hticket k]
    split
    · next h => rw [h, hbus]
    · rfl

theorem State.setQueue_entriesOf (s : State) (n m : Link) (es : List WorkEntry) (k : Fin 24) :
    (s.setQueue n es).entriesOf m k = if m = n then es.count (.ticketed k) else s.entriesOf m k := by
  unfold State.entriesOf
  rw [s.setQueue_queue n m es]
  split <;> rfl

theorem State.TicketsPlaced.carriesOn {s : State} (hs : s.TicketsPlaced) {n : Link} {es : List WorkEntry} {b : BpcState}
    (hqueue : ∀ t, es.count (.ticketed t) = (s.queue n).count (.ticketed t))
    (hop : b.operation?.bind Operation.ticket? = s.ticketInProgress) :
    ({ s with queues := s.queues.set n es, bpc := b } : State).TicketsPlaced := by
  refine hs.of_places (fun m k => ?_) hop (fun _ _ => rfl) fun _ => rfl
  refine (s.setQueue_entriesOf n m es k).trans ?_
  split
  · next h => rw [h, hqueue k]; rfl
  · rfl

theorem State.allocate_queue (s : State) (t : Fin 24) (r : Request) (data : List Byte) (hold : Option Nat) (n : Link) :
    (s.allocate t r data hold).queue n = if n = r.owner then s.queue r.owner ++ [.ticketed t] else s.queue n := by
  have h := (s.setTicketState t (.queued r data (s.startMode r.owner hold))).setQueue_queue r.owner n
    (s.queue r.owner ++ [.ticketed t])
  unfold State.allocate
  cases s.startMode r.owner hold <;> exact h

theorem State.allocate_ticketInProgress (s : State) (t : Fin 24) (r : Request) (data : List Byte) (hold : Option Nat) :
    (s.allocate t r data hold).ticketInProgress = s.ticketInProgress :=
  State.allocate_keeps State.ticketInProgress (fun _ _ => rfl) (fun _ _ => rfl) (fun _ _ _ => rfl) s t r data hold

/-- An admission queues a FREE ticket, which nothing names, under its owner (R36, R83). -/
theorem State.TicketsPlaced.admits {s : State} (hs : s.TicketsPlaced) {t : Fin 24} (h : s.lowestFree = some t)
    (r : Request) (data : List Byte) (hold : Option Nat) : (s.allocate t r data hold).TicketsPlaced := by
  have hfree := State.free_of_lowestFree h
  have hprogress := s.allocate_ticketInProgress t r data hold
  refine ⟨fun n k => ?_, fun k q => ?_⟩
  · have hentries := hs.entries n k
    unfold State.entriesOf at hentries ⊢
    rw [s.allocate_queue t r data hold n, s.allocate_ticket t k r data hold]
    by_cases hk : k = t
    · subst hk
      rw [hfree] at hentries
      by_cases hn : n = r.owner
      · subst hn
        simp [TicketState.isQueuedOf, hentries]
      · have hne : ¬r.owner = n := fun e => hn e.symm
        simp [TicketState.isQueuedOf, hentries, hn, hne]
    · have hother : (WorkEntry.ticketed t) ≠ .ticketed k := fun e => hk (by cases e; rfl)
      by_cases hn : n = r.owner
      · subst hn
        simp [hentries, hk, hother]
      · simp [hentries, hk, hn]
  · rw [hprogress, hs.progress k q, s.allocate_ticket t k r data hold]
    split
    · next hk =>
      rw [hk, hfree]
      rfl
    · rfl

theorem Ticket.completed_isQueuedOf (a : Ticket) (deadline : Option Nat) (res : Result) (n : Link) :
    (a.completed deadline res).st.isQueuedOf n = false := by
  cases h : (a.completed deadline res).st.isQueuedOf n with
  | false => rfl
  | true =>
    obtain ⟨r, d, m, hst, _⟩ := TicketState.isQueuedOf_eq_true h
    exact absurd hst (a.completed_not_queued deadline res r d m)

theorem Ticket.completed_onBus (a : Ticket) (deadline : Option Nat) (res : Result) :
    (a.completed deadline res).st.onBus? = none := by
  rcases a with ⟨g, st⟩
  cases st with
  | queued r x m | issued r x m => cases m <;> rfl
  | ready | detached | free => rfl

theorem State.complete_ticketInProgress (s : State) (t : Fin 24) (res : Result) :
    (s.complete t res).ticketInProgress = s.ticketInProgress :=
  congrArg (fun b : BpcState => b.operation?.bind Operation.ticket?) (s.complete_bpc t res)

theorem State.complete_entriesOf (s : State) (t : Fin 24) (res : Result) (n : Link) (k : Fin 24) :
    (s.complete t res).entriesOf n k = s.entriesOf n k := by
  unfold State.entriesOf State.queue
  rw [s.complete_queues t res]

theorem State.toIdle_ticketInProgress (s : State) : s.toIdle.ticketInProgress = none := rfl

theorem TicketState.isQueuedOf_of_onBus {st : TicketState} {q : Request} (h : st.onBus? = some q) (n : Link) :
    st.isQueuedOf n = false := by
  cases st with
  | issued | detached => rfl
  | queued | ready | free => cases h

/-- The ticket in progress ends, and the controller has no other (R31, R42). -/
theorem State.TicketsPlaced.finishes {s : State} (hs : s.TicketsPlaced) {t : Fin 24} {r : Request}
    (h : s.ticketInProgress = some (t, r)) (res : Result) : (s.complete t res).toIdle.TicketsPlaced := by
  have hbus := (hs.progress t r).1 h
  have hticket (k : Fin 24) : (s.complete t res).toIdle.ticket k =
      if k = t then (s.ticket t).completed (s.discard.deadline s.now) res else s.ticket k := s.complete_ticket t k res
  refine ⟨fun n k => ?_, fun k q => ?_⟩
  · have hentries : (s.complete t res).toIdle.entriesOf n k = s.entriesOf n k := s.complete_entriesOf t res n k
    rw [hentries, hs.entries n k, hticket k]
    split
    · next hk => rw [hk, Ticket.completed_isQueuedOf, TicketState.isQueuedOf_of_onBus hbus]
    · rfl
  · rw [State.toIdle_ticketInProgress, hticket k]
    refine ⟨nofun, fun hq => ?_⟩
    split at hq
    · rw [Ticket.completed_onBus] at hq
      cases hq
    · next hk =>
      rw [(hs.progress k q).2 hq] at h
      cases h
      exact absurd rfl hk

/-- The queue of a link whose head names a ticket: the ticket is QUEUED under that link, and nothing else names it. -/
theorem State.TicketsPlaced.count_tail {s : State} (hs : s.TicketsPlaced) {n : Link} {t : Fin 24}
    {rest : List WorkEntry}
    (hq : s.queue n = .ticketed t :: rest) (m : Link) (k : Fin 24) :
    (s.setQueue n rest).entriesOf m k = if k = t then 0 else ((s.ticket k).st.isQueuedOf m).toNat := by
  obtain ⟨r, d, x, hst, howner⟩ := (hs.mem_queue_iff n t).1 (by rw [hq]; exact List.mem_cons_self)
  have hentries := hs.entries m k
  rw [s.setQueue_entriesOf n m rest k]
  by_cases hm : m = n
  · subst hm
    unfold State.entriesOf at hentries
    rw [hq] at hentries
    rw [if_pos rfl]
    by_cases hk : k = t
    · subst hk
      rw [hst, TicketState.isQueuedOf_queued] at hentries
      simpa [howner] using hentries
    · have hne : (WorkEntry.ticketed t) ≠ .ticketed k := fun e => hk (by cases e; rfl)
      rw [List.count_cons_of_ne hne] at hentries
      rw [if_neg hk, hentries]
  · rw [if_neg hm, hentries]
    split
    · next hk =>
      subst hk
      have hne : ¬r.owner = m := fun e => hm (e.symm.trans howner)
      simp [hst, TicketState.isQueuedOf_queued, hne]
    · rfl

theorem State.TicketsPlaced.disposes {s : State} (hs : s.TicketsPlaced) {n : Link} {t : Fin 24} {rest : List WorkEntry}
    (hq : s.queue n = .ticketed t :: rest) (hst : ∃ r d m, (s.ticket t).st = .queued r d m) (res : Result) :
    ((s.setQueue n rest).complete t res).TicketsPlaced := by
  have hticket (k : Fin 24) : ((s.setQueue n rest).complete t res).ticket k =
      if k = t then (s.ticket t).completed (s.discard.deadline s.now) res else s.ticket k :=
    (s.setQueue n rest).complete_ticket t k res
  have hprogress : ((s.setQueue n rest).complete t res).ticketInProgress = s.ticketInProgress :=
    (s.setQueue n rest).complete_ticketInProgress t res
  refine ⟨fun m k => ?_, fun k q => ?_⟩
  · rw [State.complete_entriesOf, hs.count_tail hq m k, hticket k]
    split
    · rw [Ticket.completed_isQueuedOf]
      rfl
    · rfl
  · rw [hprogress, hs.progress k q, hticket k]
    split
    · next hk =>
      obtain ⟨r, d, m, hst⟩ := hst
      rw [hk, hst, Ticket.completed_onBus]
      rfl
    · rfl

/-- A grant takes the ticket out of its queue and onto the backplane, where there was none (R92). -/
theorem State.TicketsPlaced.grants {s : State} (hs : s.TicketsPlaced) {n : Link} {t : Fin 24} {rest : List WorkEntry}
    {r : Request} {d : List Byte} {m : ReplyMode} (hq : s.queue n = .ticketed t :: rest) (hidle : s.bpc = .idle) :
    (((s.setQueue n rest).setTicketState t (.issued r d m)).startSelect (.ticketed t r d)).TicketsPlaced := by
  have hnone := State.ticketInProgress_of_idle hidle
  have hticket (k : Fin 24) :
      (((s.setQueue n rest).setTicketState t (.issued r d m)).startSelect (.ticketed t r d)).ticket k =
      if k = t then ⟨(s.ticket t).gen, .issued r d m⟩ else s.ticket k :=
    (s.setQueue n rest).setTicketState_ticket t k _
  refine ⟨fun l k => (hs.count_tail hq l k).trans ?_, fun k q => ?_⟩
  · rw [hticket k]
    split <;> rfl
  · have hsome : (((s.setQueue n rest).setTicketState t (.issued r d m)).startSelect
        (.ticketed t r d)).ticketInProgress = some (t, r) := rfl
    rw [hsome, hticket k]
    split
    · next hk => simp [hk, TicketState.onBus?]
    · next hk =>
      rw [← hs.progress k q, hnone]
      exact ⟨fun h => absurd (by cases h; rfl) hk, nofun⟩

theorem State.TicketsPlaced.cancels {s : State} (hs : s.TicketsPlaced) {t : Fin 24} {r : Request} {d : List Byte}
    {m : ReplyMode} (h : (s.ticket t).st = .queued r d m) : ((s.dropEntry r.owner t).freeTicket t).TicketsPlaced := by
  have hticket (k : Fin 24) : ((s.dropEntry r.owner t).freeTicket t).ticket k =
      if k = t then (s.ticket t).freed else s.ticket k := (s.dropEntry r.owner t).freeTicket_ticket t k
  refine ⟨fun n k => ?_, fun k q => ?_⟩
  · have hentries := hs.entries n k
    have hdrop : ((s.dropEntry r.owner t).freeTicket t).entriesOf n k = if n = r.owner then
        ((s.queue r.owner).filter (· ≠ .ticketed t)).count (.ticketed k) else s.entriesOf n k :=
      s.setQueue_entriesOf r.owner n _ k
    rw [hdrop, hticket k]
    by_cases hk : k = t
    · subst hk
      rw [if_pos rfl]
      split
      · exact List.count_eq_zero.2 (by simp)
      · next hn =>
        rw [hentries, h, TicketState.isQueuedOf_queued, decide_eq_false fun e => hn e.symm]
        rfl
    · rw [if_neg hk, ← hentries]
      split
      · next hn =>
        subst hn
        exact List.count_filter (by simp [hk])
      · rfl
  · have hprogress : ((s.dropEntry r.owner t).freeTicket t).ticketInProgress = s.ticketInProgress := rfl
    rw [hprogress, hs.progress k q, hticket k]
    split
    · next hk =>
      rw [hk, h]
      rfl
    · rfl

theorem State.revoke_ticketInProgress (s : State) : s.revoke.ticketInProgress = s.ticketInProgress :=
  State.revoke_keeps State.ticketInProgress (fun _ _ _ => rfl) (fun _ _ _ => rfl) (fun _ _ => rfl) (fun _ _ => rfl)
    (fun _ _ => rfl) s

/-- The pass removes exactly the entries of the tickets that it completes (R96). -/
theorem State.TicketsPlaced.revoke {s : State} (hs : s.TicketsPlaced) : s.revoke.TicketsPlaced := by
  refine ⟨fun n k => ?_, fun k q => ?_⟩
  · have hentries := hs.entries n k
    unfold State.entriesOf at hentries ⊢
    rw [hs.revoke_queue n]
    by_cases hk : s.revokes k
    · rw [State.revoke_ticket_of_revokes hk, Ticket.completed_isQueuedOf]
      refine List.count_eq_zero.2 fun hmem => ?_
      obtain ⟨hin, hsurvives⟩ := List.mem_filter.1 hmem
      obtain ⟨m, hm, hfails⟩ := hk
      obtain ⟨r, d, x, hst, howner⟩ := (hs.mem_queue_iff n k).1 hin
      obtain ⟨r', d', x', hst', howner'⟩ := (hs.mem_queue_iff m k).1 hm
      rw [hst] at hst'
      cases hst'
      rw [← howner', howner, hsurvives] at hfails
      cases hfails
    · rw [State.revoke_ticket_of_not_revokes hk, ← hentries]
      by_cases hin : .ticketed k ∈ s.queue n
      · refine List.count_filter ?_
        cases hsurvives : s.survives n (.ticketed k) with
        | true => rfl
        | false => exact absurd ⟨n, hin, hsurvives⟩ hk
      · rw [List.count_eq_zero.2 hin, List.count_eq_zero.2 fun h => hin (List.mem_filter.1 h).1]
  · rw [s.revoke_ticketInProgress, hs.progress k q]
    by_cases hk : s.revokes k
    · obtain ⟨r, d, m, hst⟩ := State.queued_of_revokes hk
      rw [State.revoke_ticket_of_revokes hk, Ticket.completed_onBus, hst]
      rfl
    · rw [State.revoke_ticket_of_not_revokes hk]

theorem Ticket.linkReset_onBus (a : Ticket) (n : Link) : (a.linkReset n).st.onBus? = a.st.onBus? := by
  rcases a with ⟨g, st⟩
  unfold Ticket.linkReset
  cases st with
  | queued | ready | issued =>
    dsimp only
    split <;> rfl
  | detached | free => rfl

theorem Ticket.linkReset_isQueuedOf (a : Ticket) (n m : Link) :
    (a.linkReset n).st.isQueuedOf m = if m = n then false else a.st.isQueuedOf m := by
  rcases a with ⟨g, st⟩
  unfold Ticket.linkReset
  cases st with
  | queued r d x =>
    dsimp only
    by_cases hr : r.owner = n
    · by_cases hm : m = n
      · simp [hr, hm, Ticket.freed, TicketState.isQueuedOf]
      · have hne : ¬n = m := fun e => hm e.symm
        simp [hr, hm, hne, Ticket.freed, TicketState.isQueuedOf]
    · by_cases hm : m = n
      · simp [hr, hm, TicketState.isQueuedOf]
      · simp [hr, hm]
  | ready | issued =>
    dsimp only
    split <;> split <;> rfl
  | detached | free => exact (ite_self _).symm

theorem count_ticketed_filter_posted (es : List WorkEntry) (k : Fin 24) :
    (es.filter (·.isPosted)).count (.ticketed k) = 0 :=
  List.count_eq_zero.2 fun h => by simpa [WorkEntry.isPosted] using (List.mem_filter.1 h).2

theorem State.TicketsPlaced.resets {s : State} (hs : s.TicketsPlaced) (n : Link) :
    (s.resetTickets n).TicketsPlaced := by
  have hprogress : (s.resetTickets n).ticketInProgress = s.ticketInProgress := by
    unfold State.ticketInProgress
    rw [s.resetTickets_bpc n]
  refine ⟨fun m k => ?_, fun k q => ?_⟩
  · have hentries := hs.entries m k
    unfold State.entriesOf at hentries ⊢
    rw [s.resetTickets_queue n m, s.resetTickets_ticket n k, Ticket.linkReset_isQueuedOf]
    split
    · exact count_ticketed_filter_posted _ k
    · exact hentries
  · rw [hprogress, s.resetTickets_ticket n k, Ticket.linkReset_onBus, hs.progress k q]

theorem Ticket.gateReset_isQueuedOf (a : Ticket) (n : Link) : a.gateReset.st.isQueuedOf n = false := by
  rcases a with ⟨g, st⟩
  cases st <;> rfl

theorem Ticket.gateReset_onBus (a : Ticket) : a.gateReset.st.onBus? = a.st.onBus? := by
  rcases a with ⟨g, st⟩
  cases st <;> rfl

theorem State.resetWork_queue (s : State) (n : Link) : s.resetWork.queue n = [] := by
  have hqueues : s.resetWork.queues = ⟨[], []⟩ := congrArg Ledger.queues s.resetWork_ledger
  unfold State.queue
  rw [hqueues]
  cases n <;> rfl

theorem State.resetWork_bpc (s : State) : s.resetWork.bpc = s.bpc := congrArg Ledger.bpc s.resetWork_ledger

theorem State.flushDirect_bpc (s : State) : s.flushDirect.bpc = s.bpc :=
  State.flushDirect_keeps State.bpc (fun _ _ _ => rfl) (fun _ _ => rfl) s

theorem State.TicketsPlaced.clears {s : State} (hs : s.TicketsPlaced) : s.flushDirect.resetWork.TicketsPlaced := by
  have hprogress : s.flushDirect.resetWork.ticketInProgress = s.ticketInProgress := by
    unfold State.ticketInProgress
    rw [State.resetWork_bpc, s.flushDirect_bpc]
  refine ⟨fun m k => ?_, fun k q => ?_⟩
  · unfold State.entriesOf
    rw [State.resetWork_queue, s.flushDirect_resetWork_ticket k, Ticket.gateReset_isQueuedOf]
    rfl
  · rw [hprogress, s.flushDirect_resetWork_ticket k, Ticket.gateReset_onBus, hs.progress k q]

theorem State.TicketMove.placed {s v : State} (h : s.TicketMove v) (hs : s.TicketsPlaced) : v.TicketsPlaced := by
  cases h with
  | carriesOn n es b hqueue hop => exact hs.carriesOn hqueue hop
  | admits t r data hold h => exact hs.admits h r data hold
  | finishes t r res h => exact hs.finishes h res
  | disposes n t rest res hq hst => exact hs.disposes hq hst res
  | grants n t rest r d m hq hst hidle => exact hs.grants hq hidle
  | claims t r res d h =>
    exact hs.of_ticket (fun k => s.freeTicket_ticket t k) (fun _ => rfl) rfl (fun _ => by rw [h]; rfl) (by rw [h]; rfl)
  | cancels t r d h => exact hs.cancels h
  | detaches t r d h =>
    exact hs.of_ticket (fun k => s.setTicketState_ticket t k _) (fun _ => rfl) rfl (fun _ => by rw [h]; rfl)
      (by rw [h]; rfl)
  | holdEnds t r st e h =>
    refine hs.of_ticket (fun k => s.setTicketState_ticket t k _) (fun _ => rfl) rfl (fun _ => ?_) ?_ <;>
      obtain ⟨d, ⟨hst, rfl⟩ | ⟨hst, rfl⟩⟩ := h <;> rw [hst] <;> rfl
  | revokes => exact hs.revoke
  | resets n => exact hs.resets n
  | clears => exact hs.clears

theorem State.reset_ticketsPlaced : State.reset.TicketsPlaced := by
  refine ⟨fun n k => ?_, fun k q => ?_⟩
  · rw [State.reset_ticket k]
    cases n <;> rfl
  · rw [State.reset_ticket k]
    exact ⟨nofun, nofun⟩

theorem State.reset_ticketLaw : State.reset.TicketLaw := (State.ticketLaw_iff _).2 State.reset_ticketsPlaced

theorem step_keeps_ticketsPlaced {s t : State} (hs : s.TicketsPlaced) (hstep : step s = .next t) : t.TicketsPlaced := by
  have hwork {u v : State} (hu : u.TicketsPlaced) (h : v.ledger.work = u.ledger.work) : v.TicketsPlaced := by
    refine hu.of_places (fun n k => ?_) ?_ (fun n k => ?_) fun k => ?_
    · exact congrArg (fun w : Ledger.Work => (w.2.1.get n).count (.ticketed k)) h
    · exact congrArg (fun w : Ledger.Work => w.2.2.operation?.bind Operation.ticket?) h
    · rw [State.ticket_of_work h k]
    · rw [State.ticket_of_work h k]
  by_cases hfull : s.fullResetNext
  · rcases step_fullReset hfull hstep with ⟨b, h, _⟩ | ⟨b, h⟩
    · exact hwork hs ((congrArg Ledger.work (State.ledger_of_books h)).trans rfl)
    · exact hwork State.reset_ticketsPlaced ((congrArg Ledger.work (State.ledger_of_books h)).trans rfl)
  · rcases step_moves hfull hstep with ⟨_, h | h⟩ | ⟨_, u, hu, w, htable, v, hticket, hv⟩
    · exact hs.of_ledger h
    · exact hwork hs ((congrArg Ledger.work h).trans rfl)
    · exact (hticket.placed (hwork (hs.of_ledger hu) htable.work)).of_ledger hv

/-- Settles O27: each move of the tickets moves the entries and the ticket in progress with them. -/
theorem ticketsStayPlaced : Obligations.TicketsStayPlaced := fun s t hs hstep =>
  (t.ticketLaw_iff).2 (step_keeps_ticketsPlaced ((s.ticketLaw_iff).1 hs) hstep)

/-! ### The window table under each step -/

/-- What a step does to the tables: what leaves them, one move, or their values after reset. -/
theorem step_tables {s t : State} (hstep : step s = .next t) :
    (∃ u : State, u.ledger = s.ledger ∧ ∃ v : State, u.TableMove v ∧ t.ledger.tables = v.ledger.tables) ∨
      (s.resetPin = true ∧ (t.ledger = s.ledger ∨ t.ledger = { s.ledger with now := s.now + 1 })) ∨
      (s.fullResetNext ∧ ((∃ b, t.ledger = { s.ledger with resetPin := b } ∧ (b = true → s.resetPin = true)) ∨
        ∃ b, t.ledger = (s.cleared b).ledger)) := by
  by_cases hfull : s.fullResetNext
  · rcases step_fullReset hfull hstep with ⟨b, h, hb⟩ | ⟨b, h⟩
    · exact .inr (.inr ⟨hfull, .inl ⟨b, (State.ledger_of_books h).trans rfl, hb⟩⟩)
    · exact .inr (.inr ⟨hfull, .inr ⟨b, State.ledger_of_books h⟩⟩)
  · rcases step_moves hfull hstep with h | ⟨_, u, hu, v, htable, w, hticket, hw⟩
    · exact .inr (.inl h)
    · exact .inl ⟨u, hu, v, htable, (congrArg Ledger.tables hw).trans hticket.tables⟩

/-- The window table of a state: the active set, the staging cells and the locks. -/
abbrev Ledger.Windows := Vector (Option WindowRecord) 32 × Vector StagingCell 32 × Vector LockLevel 32

def Ledger.windows (a : Ledger) : Ledger.Windows :=
  (a.active, a.staging, a.locks)

theorem Ledger.windows_of_tables {a b : Ledger} (h : a.tables = b.tables) : a.windows = b.windows :=
  congrArg (fun x : Ledger.Tables => (x.2.1, x.2.2.1, x.2.2.2.1)) h

/-- What a step other than a full reset does to the window table. -/
theorem step_windows {s t : State} (hstep : step s = .next t) :
    (∃ u v : State, u.ledger = s.ledger ∧ u.TableMove v ∧ t.ledger.windows = v.ledger.windows) ∨
      (s.fullResetNext ∧ t.ledger.windows = State.reset.ledger.windows) := by
  rcases step_tables hstep with ⟨u, hu, v, hmove, ht⟩ | ⟨_, h | h⟩ | ⟨hfull, ⟨b, h, _⟩ | ⟨b, h⟩⟩
  · exact .inl ⟨u, v, hu, hmove, Ledger.windows_of_tables ht⟩
  · exact .inl ⟨s, s, rfl, .stays, congrArg Ledger.windows h⟩
  · exact .inl ⟨s, s, rfl, .stays, (congrArg Ledger.windows h).trans rfl⟩
  · exact .inl ⟨s, s, rfl, .stays, (congrArg Ledger.windows h).trans rfl⟩
  · exact .inr ⟨hfull, (congrArg Ledger.windows h).trans rfl⟩

theorem State.active_of_windows {s t : State} (h : t.ledger.windows = s.ledger.windows) : t.active = s.active :=
  congrArg Prod.fst h

theorem State.locks_of_windows {s t : State} (h : t.ledger.windows = s.ledger.windows) : t.locks = s.locks :=
  congrArg (fun x : Ledger.Windows => x.2.2) h

theorem State.staging_of_windows {s t : State} (h : t.ledger.windows = s.ledger.windows) : t.staging = s.staging :=
  congrArg (fun x : Ledger.Windows => x.2.1) h

/-- A commit that passes the overlap check of every index leaves no two entries that overlap (R18, R20). -/
theorem State.applyCommit_disjoint {s : State} (h : s.commitFailure = none) : WindowsDisjoint s.applyCommit.active := by
  intro i j r q hne hr hq
  rw [State.applyCommit_active] at hr hq
  obtain ⟨_, hoverlap⟩ := s.commitFailure_eq_none_iff.1 h i
  exact (s.overlapPasses_iff i).1 hoverlap j r q (fun e => hne e.symm) hr hq

theorem State.TableMove.disjoint {s v : State} (h : s.TableMove v) (hs : WindowsDisjoint s.active) :
    WindowsDisjoint v.active := by
  cases h with
  | commits h => exact State.applyCommit_disjoint h
  | stays | passes | stages | locks | holds | frees | lapses | selects => exact hs

theorem State.reset_active (i : Fin 32) : State.reset.active[i] = none := by
  simp [State.reset]

theorem State.reset_disjoint : WindowsDisjoint State.reset.active := by
  intro i j r q _ hr
  rw [State.reset_active] at hr
  cases hr

/-- Settles O17: only a commit writes the active set, after the overlap check. -/
theorem windowsStayDisjoint : Obligations.WindowsStayDisjoint := by
  intro s t hs hstep
  rcases step_windows hstep with ⟨u, v, hu, hmove, ht⟩ | ⟨_, ht⟩
  · rw [State.active_of_windows ht]
    refine hmove.disjoint ?_
    rw [State.read_of_ledger hu fun s => s.active]
    exact hs
  · rw [State.active_of_windows ht]
    exact State.reset_disjoint

/-! ### Locks (R23, R24) -/

/-- What a lock keeps of an index: it rises, FROZEN keeps the entry, and NARROW lets it be erased or narrowed. -/
def LockKeeps (lock lock' : LockLevel) (entry entry' : Option WindowRecord) : Prop :=
  lock.rank ≤ lock'.rank ∧ (lock = .frozen → entry' = entry) ∧
    (lock = .narrow → entry' = entry ∨ entry' = none ∨
      ∃ cur new, entry = some cur ∧ entry' = some new ∧ new.NarrowedFrom cur)

theorem lockKeeps_of_entry_eq {lock lock' : LockLevel} (h : lock.rank ≤ lock'.rank) (entry : Option WindowRecord) :
    LockKeeps lock lock' entry entry := ⟨h, fun _ => rfl, fun _ => .inl rfl⟩

/-- A commit that passes the lock check of every index keeps to the locks (R18, R24). -/
theorem State.applyCommit_lockKeeps {s : State} (h : s.commitFailure = none) (i : Fin 32) :
    LockKeeps s.locks[i] s.applyCommit.locks[i] s.active[i] s.applyCommit.active[i] := by
  obtain ⟨hlock, _⟩ := s.commitFailure_eq_none_iff.1 h i
  rw [State.applyCommit_active]
  have hlocks : s.applyCommit.locks[i] = s.locks[i] := by rw [s.applyCommit_locks]
  rw [hlocks]
  refine ⟨le_rfl, ?_⟩
  unfold State.resulting
  rcases (s.lockPasses_iff i).1 hlock with hnone | hunlocked | ⟨hnarrow, hclear | ⟨r, hset, hr⟩⟩
  · rw [hnone]
    exact ⟨fun _ => rfl, fun _ => .inl rfl⟩
  · rw [hunlocked]
    exact ⟨nofun, nofun⟩
  · rw [hnarrow, hclear]
    exact ⟨nofun, fun _ => .inr (.inl rfl)⟩
  · rw [hnarrow, hset]
    refine ⟨nofun, fun _ => .inr (.inr ?_)⟩
    cases hcur : s.active[i] with
    | none =>
      rw [hcur] at hr
      cases hr
    | some cur =>
      rw [hcur] at hr
      exact ⟨cur, r, rfl, rfl, (narrows_some_iff cur r).1 hr⟩

theorem State.TableMove.lockKeeps {s v : State} (h : s.TableMove v) (i : Fin 32) :
    LockKeeps s.locks[i] v.locks[i] s.active[i] v.active[i] := by
  cases h with
  | commits h => exact State.applyCommit_lockKeeps h i
  | locks j l h =>
    refine lockKeeps_of_entry_eq ?_ _
    by_cases hij : i = j
    · subst hij
      simpa using h
    · have hne : (j : Nat) ≠ i := fun e => hij (Fin.ext e.symm)
      simp [hne]
  | stays | passes | stages | holds | frees | lapses | selects => exact lockKeeps_of_entry_eq le_rfl _

/-- Settles O18: a lock is written to a level no lower, and the active set by a commit after the lock check. -/
theorem locksNeverFall : Obligations.LocksNeverFall := by
  intro s t hfull hstep i
  rcases step_windows hstep with ⟨u, v, hu, hmove, ht⟩ | ⟨h, _⟩
  · have hlocks : u.locks = s.locks := State.read_of_ledger hu fun s => s.locks
    have hactive : u.active = s.active := State.read_of_ledger hu fun s => s.active
    rw [State.active_of_windows ht, State.locks_of_windows ht, ← hlocks, ← hactive]
    exact hmove.lockKeeps i
  · exact absurd h hfull

/-! ### Records and the lease -/

theorem State.TableMove.recordsValid {s v : State} (h : s.TableMove v) (hs : s.RecordsValid) : v.RecordsValid := by
  intro i r
  have hactive : s.active[i] = some r → r.valid = true := fun hr => hs i r (.inl hr)
  have hstaging : s.staging[i] = .set r → r.valid = true := fun hr => hs i r (.inr hr)
  cases h with
  | stages j c hlease hvalid =>
    rintro (hr | hr)
    · exact hactive hr
    · unfold State.setCell at hr
      rw [show (s.staging.set j c)[i] = if i = j then c else s.staging[i] from vector_set_get s.staging j i c] at hr
      split at hr
      · exact hvalid r hr
      · exact hstaging hr
  | commits h =>
    rw [State.applyCommit_active, s.applyCommit_staging]
    rintro (hr | hr)
    · unfold State.resulting at hr
      split at hr
      · exact hactive hr
      · next hset =>
        cases hr
        exact hstaging hset
      · cases hr
    · simp at hr
  | frees =>
    rintro (hr | hr)
    · exact hactive hr
    · simp at hr
  | lapses =>
    rintro (hr | hr)
    · exact hactive hr
    · simp at hr
  | stays | passes | locks | holds | selects => exact hs i r

theorem State.reset_staging (i : Fin 32) : State.reset.staging[i] = .none := by
  simp [State.reset]

theorem State.reset_recordsValid : State.reset.RecordsValid := by
  rintro i r (hr | hr)
  · rw [State.reset_active] at hr
    cases hr
  · rw [State.reset_staging] at hr
    cases hr

theorem step_keeps_recordsValid {s t : State} (hs : s.RecordsValid) (hstep : step s = .next t) : t.RecordsValid := by
  have hwindows {u : State} (hu : u.RecordsValid) (h : t.ledger.windows = u.ledger.windows) : t.RecordsValid := by
    intro i r
    rw [State.active_of_windows h, State.staging_of_windows h]
    exact hu i r
  rcases step_windows hstep with ⟨u, v, hu, hmove, ht⟩ | ⟨_, ht⟩
  · refine hwindows (hmove.recordsValid fun i r => ?_) ht
    rw [State.read_of_ledger hu fun s => s.active, State.read_of_ledger hu fun s => s.staging]
    exact hs i r
  · exact hwindows State.reset_recordsValid ht

theorem State.TableMove.leaseLaw {s v : State} (h : s.TableMove v) (hs : s.LeaseLaw) : v.LeaseLaw := by
  intro hlease i
  cases h with
  | stages j c hheld hvalid => exact absurd hlease hheld
  | holds n d => cases hlease
  | commits h =>
    rw [s.applyCommit_staging]
    simp
  | frees | lapses => simp
  | stays | passes | locks | selects => exact hs hlease i

theorem State.reset_leaseLaw : State.reset.LeaseLaw := fun _ i => State.reset_staging i

/-- The law reads the lease and the staging cells alone. -/
theorem State.leaseLaw_of_tables {s t : State} (hs : s.LeaseLaw) (hlease : t.lease = s.lease)
    (hstaging : t.staging = s.staging) : t.LeaseLaw := by
  intro h i
  rw [hstaging]
  exact hs (hlease ▸ h) i

theorem State.lease_of_tables {s t : State} (h : t.ledger.tables = s.ledger.tables) : t.lease = s.lease :=
  congrArg (fun x : Ledger.Tables => x.2.2.2.2) h

theorem step_keeps_leaseLaw {s t : State} (hs : s.LeaseLaw) (hstep : step s = .next t) : t.LeaseLaw := by
  have hread {u : State} (hu : u.LeaseLaw) (h : t.ledger.tables = u.ledger.tables) : t.LeaseLaw :=
    State.leaseLaw_of_tables hu (State.lease_of_tables h) (State.staging_of_windows (Ledger.windows_of_tables h))
  rcases step_tables hstep with ⟨u, hu, v, hmove, ht⟩ | ⟨_, h | h⟩ | ⟨_, ⟨b, h, _⟩ | ⟨b, h⟩⟩
  · exact hread (hmove.leaseLaw (State.leaseLaw_of_tables hs (State.read_of_ledger hu fun s => s.lease)
      (State.read_of_ledger hu fun s => s.staging))) ht
  · exact hread hs (congrArg Ledger.tables h)
  · exact State.leaseLaw_of_tables hs (congrArg Ledger.lease h) (congrArg Ledger.staging h)
  · exact State.leaseLaw_of_tables hs (congrArg Ledger.lease h) (congrArg Ledger.staging h)
  · exact State.leaseLaw_of_tables State.reset_leaseLaw (congrArg Ledger.lease h) (congrArg Ledger.staging h)

/-! ### Timers -/

/-- No running timer has passed its end (R39, R50, R113, R168). -/
def State.TimersAhead (s : State) : Prop := ∀ x ∈ s.timerEnds, s.now ≤ x

theorem State.timerEnds_congr {s t : State} (htickets : ∀ k, t.ticket k = s.ticket k) (hlease : t.lease = s.lease)
    (hbpc : t.bpc = s.bpc) : t.timerEnds = s.timerEnds := by
  unfold State.timerEnds
  rw [hlease, hbpc]
  simp only [htickets]

theorem State.timerEnds_of_ledger {s t : State} (h : t.ledger = s.ledger) : t.timerEnds = s.timerEnds :=
  State.read_of_ledger h fun s => s.timerEnds

theorem State.mem_timerEnds_of_lease {s : State} {l : Lease} (h : s.lease = some l) : l.expiry ∈ s.timerEnds :=
  (s.mem_timerEnds _).2 (.inr (.inl ⟨l, h, rfl⟩))

theorem State.mem_timerEnds_of_ticket {s : State} {k : Fin 24} {x : Nat} (h : (s.ticket k).st.timerEnd? = some x) :
    x ∈ s.timerEnds := (s.mem_timerEnds x).2 (.inl ⟨k, h⟩)

theorem State.mem_timerEnds_of_bpc {s : State} {x : Nat} (h : s.bpc.timerEnd? = some x) : x ∈ s.timerEnds :=
  (s.mem_timerEnds x).2 (.inr (.inr h))

theorem State.now_le_leaseEnd (s : State) (d : Byte) : s.now ≤ s.leaseEnd d := by
  unfold State.leaseEnd
  omega

theorem State.toward_ahead {s : State} (hs : s.TimersAhead) {e : Nat} (hfirst : s.firstAt e) {x : Nat}
    (hx : x ∈ s.timerEnds) : (s.toward e).now ≤ x := Nat.max_le.2 ⟨hs x hx, hfirst x hx⟩

theorem State.TableMove.timersAhead {s v : State} (h : s.TableMove v) (hs : s.TimersAhead) : v.TimersAhead := by
  cases h with
  | commits h =>
    have hends : s.applyCommit.timerEnds = s.timerEnds :=
      State.timerEnds_congr (fun k => s.applyCommit_ticket k) s.applyCommit_lease s.applyCommit_bpc
    intro x hx
    rw [hends] at hx
    rw [s.applyCommit_now]
    exact hs x hx
  | passes e hfirst => exact fun x hx => State.toward_ahead hs hfirst hx
  | lapses e hfirst =>
    intro x hx
    refine State.toward_ahead hs hfirst ((s.mem_timerEnds x).2 ?_)
    rcases (State.mem_timerEnds _ x).1 hx with ht | ⟨l, hl, _⟩ | hb
    · exact .inl ht
    · cases hl
    · exact .inr (.inr hb)
  | frees =>
    intro x hx
    refine hs x ((s.mem_timerEnds x).2 ?_)
    rcases (State.mem_timerEnds _ x).1 hx with ht | ⟨l, hl, _⟩ | hb
    · exact .inl ht
    · cases hl
    · exact .inr (.inr hb)
  | holds n d =>
    intro x hx
    rcases (State.mem_timerEnds _ x).1 hx with ⟨k, hk⟩ | ⟨l, hl, rfl⟩ | hb
    · exact hs x (State.mem_timerEnds_of_ticket (s := s) hk)
    · cases hl
      exact s.now_le_leaseEnd d
    · exact hs x (State.mem_timerEnds_of_bpc (s := s) hb)
  | stays | stages | locks | selects => exact hs

theorem State.startMode_timerEnd {s : State} {n : Link} {hold : Option Nat} {r : Request} {data : List Byte} {x : Nat}
    (h : (TicketState.queued r data (s.startMode n hold)).timerEnd? = some x) : s.now ≤ x := by
  unfold State.startMode at h
  cases hold with
  | none => cases h
  | some us =>
    cases hd : s.holdsDirect n with
    | true => simp [hd, TicketState.timerEnd?] at h
    | false =>
      simp only [hd, Bool.false_eq_true, if_false, TicketState.timerEnd?, Option.some.injEq] at h
      omega

/-- The controller's timer after a move of the tickets: as before, or started now (R113). -/
theorem State.TicketMove.bpc_timerEnd {s v : State} (h : s.TicketMove v) {x : Nat} (hx : v.bpc.timerEnd? = some x) :
    s.bpc.timerEnd? = some x ∨ s.now ≤ x := by
  have hsame (e : v.bpc = s.bpc) : s.bpc.timerEnd? = some x ∨ s.now ≤ x := .inl (e ▸ hx)
  cases h with
  | carriesOn n es b hqueue hop htimer => exact htimer x hx
  | admits t r data hold h =>
    exact hsame (State.allocate_keeps State.bpc (fun _ _ => rfl) (fun _ _ => rfl) (fun _ _ _ => rfl) s t r data hold)
  | finishes => cases hx
  | disposes n t rest res => exact hsame (State.complete_bpc _ t res)
  | grants n t rest r d m =>
    cases hx
    exact .inr s.now_le_phaseEnd
  | claims | cancels | detaches | holdEnds => exact .inl hx
  | revokes =>
    exact hsame (State.revoke_keeps State.bpc (fun _ _ _ => rfl) (fun _ _ _ => rfl) (fun _ _ => rfl) (fun _ _ => rfl)
      (fun _ _ => rfl) s)
  | resets n => exact hsame (s.resetTickets_bpc n)
  | clears => exact hsame ((State.resetWork_bpc _).trans s.flushDirect_bpc)

theorem State.now_of_tables {s t : State} (h : t.ledger.tables = s.ledger.tables) : t.now = s.now :=
  congrArg (fun x : Ledger.Tables => x.1.1) h

theorem State.resetPin_of_tables {s t : State} (h : t.ledger.tables = s.ledger.tables) : t.resetPin = s.resetPin :=
  congrArg (fun x : Ledger.Tables => x.1.2.1) h

theorem State.discard_of_tables {s t : State} (h : t.ledger.tables = s.ledger.tables) : t.discard = s.discard :=
  congrArg (fun x : Ledger.Tables => x.1.2.2) h

theorem State.TicketMove.timersAhead {s v : State} (h : s.TicketMove v) (hs : s.TimersAhead) : v.TimersAhead := by
  intro x hx
  rw [State.now_of_tables h.tables]
  rcases (v.mem_timerEnds x).1 hx with ⟨k, hk⟩ | ⟨l, hl, rfl⟩ | hb
  · rcases h.changes with ⟨t, r, data, hold, _, rfl⟩ | hchange
    · rw [s.allocate_ticket t k r data hold] at hk
      split at hk
      · exact State.startMode_timerEnd hk
      · exact hs x (State.mem_timerEnds_of_ticket hk)
    · rcases (hchange k).timerEnd hk with hold | hnow
      · exact hs x (State.mem_timerEnds_of_ticket hold)
      · exact hnow
  · rw [State.lease_of_tables h.tables] at hl
    exact hs _ (State.mem_timerEnds_of_lease hl)
  · rcases h.bpc_timerEnd hb with hold | hnow
    · exact hs x (State.mem_timerEnds_of_bpc hold)
    · exact hnow

theorem State.reset_timerEnds : State.reset.timerEnds = [] := by
  refine List.eq_nil_iff_forall_not_mem.2 fun x hx => ?_
  rcases (State.reset.mem_timerEnds x).1 hx with ⟨k, hk⟩ | ⟨l, hl, _⟩ | hb
  · rw [State.reset_ticket k] at hk
    cases hk
  · cases hl
  · cases hb

theorem State.timerLaw_of_nil {s : State} (h : s.timerEnds = []) : s.TimerLaw :=
  ⟨fun _ => h, fun x hx => by rw [h] at hx; cases hx⟩

theorem State.TableMove.resetPin {s v : State} (h : s.TableMove v) : v.resetPin = s.resetPin := by
  cases h with
  | commits h => exact s.applyCommit_resetPin
  | stays | passes | stages | locks | holds | frees | lapses | selects => rfl

theorem step_keeps_timerLaw {s t : State} (hs : s.TimerLaw) (hstep : step s = .next t) : t.TimerLaw := by
  obtain ⟨hreset, hahead⟩ := hs
  have hends {b : Ledger} (htickets : b.tickets = s.tickets) (hlease : b.lease = s.lease) (hbpc : b.bpc = s.bpc)
      (h : t.ledger = b) : t.timerEnds = s.timerEnds := by
    subst h
    exact State.timerEnds_congr (fun k => congrArg (fun x : Vector Ticket 24 => x[k]) htickets) hlease hbpc
  by_cases hfull : s.fullResetNext
  · rcases step_fullReset hfull hstep with ⟨b, h, hb⟩ | ⟨b, h⟩
    · have hledger := State.ledger_of_books h
      have ht : t.timerEnds = s.timerEnds := hends rfl rfl rfl (hledger.trans rfl)
      have hpin : t.resetPin = b := congrArg Ledger.resetPin hledger
      have hnow : t.now = s.now := congrArg Ledger.now hledger
      refine ⟨fun hr => ht.trans (hreset (hb (hpin ▸ hr))), ?_⟩
      rw [ht, hnow]
      exact hahead
    · have hledger := State.ledger_of_books h
      exact State.timerLaw_of_nil ((State.timerEnds_congr (s := State.reset)
        (fun k => congrArg (fun a : Ledger => a.tickets[k]) hledger) (congrArg Ledger.lease hledger)
        (congrArg Ledger.bpc hledger)).trans State.reset_timerEnds)
  · rcases step_moves hfull hstep with ⟨hr, h | h⟩ | ⟨hr, u, hu, v, htable, w, hticket, hw⟩
    · exact State.timerLaw_of_nil ((hends rfl rfl rfl h).trans (hreset hr))
    · exact State.timerLaw_of_nil ((hends rfl rfl rfl h).trans (hreset hr))
    · have hwahead := hticket.timersAhead (htable.timersAhead (s := u) fun x hx => by
        rw [State.timerEnds_of_ledger hu] at hx
        rw [State.read_of_ledger hu fun s => s.now]
        exact hahead x hx)
      refine ⟨fun ht => ?_, fun x hx => ?_⟩
      · have hpin : t.resetPin = v.resetPin :=
          State.resetPin_of_tables ((congrArg Ledger.tables hw).trans hticket.tables)
        have hv := htable.resetPin
        have hpin' : u.resetPin = s.resetPin := State.read_of_ledger hu fun s => s.resetPin
        rw [hpin, hv, hpin', hr] at ht
        cases ht
      · rw [State.timerEnds_of_ledger hw] at hx
        rw [State.read_of_ledger hw fun s => s.now]
        exact hwahead x hx

/-! ### READY tickets under each step (law 3, R44, R49) -/

/-- A step leaves a READY ticket or frees it. -/
theorem step_ready {s t : State} {k : Fin 24} {r : Request} {res : Result} {d : Option Nat} (hstep : step s = .next t)
    (h : (s.ticket k).st = .ready r res d) : t.ticket k = s.ticket k ∨ (t.ticket k).st = .free := by
  rcases step_tickets hstep with hsame | ⟨u, v, hu, hmove, hv⟩ | hfree
  · exact .inl (hsame k)
  · rw [State.read_of_ledger hv fun s => s.ticket k, ← hu k]
    rw [← hu k] at h
    rcases hmove.changes with ⟨j, q, data, hold, hlowest, rfl⟩ | hchange
    · refine .inl ((u.allocate_ticket j k q data hold).trans (if_neg fun hk => ?_))
      rw [hk, State.free_of_lowestFree hlowest] at h
      cases h
    · exact (hchange k).of_ready h
  · exact .inr (hfree k)

/-- A step that makes a ticket READY gives it the deadline of the discard selection. -/
theorem step_becomes_ready {s t : State} {k : Fin 24} {r : Request} {res : Result} {d : Option Nat}
    (hstep : step s = .next t) (h : (t.ticket k).st = .ready r res d)
    (hbefore : ∀ r' res' d', (s.ticket k).st ≠ .ready r' res' d') : d = t.discard.deadline t.now := by
  rcases step_tickets hstep with hsame | ⟨u, v, hu, hmove, hv⟩ | hfree
  · rw [hsame k] at h
    exact absurd h (hbefore r res d)
  · rw [State.read_of_ledger hv fun s => s.ticket k] at h
    rw [State.read_of_ledger hv fun s => s.discard.deadline s.now, State.discard_of_tables hmove.tables,
      State.now_of_tables hmove.tables]
    rw [← hu k] at hbefore
    rcases hmove.changes with ⟨j, q, data, hold, hlowest, rfl⟩ | hchange
    · rw [u.allocate_ticket j k q data hold] at h
      split at h
      · cases h
      · exact absurd h (hbefore r res d)
    · exact (hchange k).to_ready h hbefore
  · rw [hfree k] at h
    cases h

/-! ### What the law of timers says of each timer -/

theorem State.TimersAhead.all {s : State} (hs : s.TimersAhead) :
    (∀ k r res d, (s.ticket k).st = .ready r res (some d) → s.now ≤ d) ∧
    (∀ k r d e, (s.ticket k).st = .queued r d (.direct e) ∨ (s.ticket k).st = .issued r d (.direct e) → s.now ≤ e) ∧
    (∀ l, s.lease = some l → s.now ≤ l.expiry) ∧
    (∀ op row e i got, s.bpc = .addressing op row e ∨ s.bpc = .transfer op row e i got → s.now ≤ e) := by
  refine ⟨fun k r res d h => ?_, fun k r d e h => ?_, fun l h => hs _ (State.mem_timerEnds_of_lease h),
    fun op row e i got h => ?_⟩
  · exact hs d (State.mem_timerEnds_of_ticket (k := k) (by rw [h]; rfl))
  · refine hs e (State.mem_timerEnds_of_ticket (k := k) ?_)
    rcases h with h | h <;> rw [h] <;> rfl
  · refine hs e (State.mem_timerEnds_of_bpc ?_)
    rcases h with h | h <;> rw [h] <;> rfl

/-! ### A timer that is not the first to end (log 4) -/

theorem State.unlessReset_self {s : State} {f : State → State} (h : f s = s) : s.unlessReset f = s := by
  unfold State.unlessReset
  split
  · rfl
  · exact h

theorem exec_holdExpiry_later {s : State} {k : Fin 24} {r : Request} {d : List Byte} {e : Nat}
    (hlater : ∃ x ∈ s.timerEnds, x < e)
    (h : (s.ticket k).st = .queued r d (.direct e) ∨ (s.ticket k).st = .issued r d (.direct e)) :
    exec (.holdExpiry k) s = .next s := by
  refine congrArg Host.Outcome.next (State.unlessReset_self ?_)
  rcases h with h | h <;> rw [h] <;> exact s.atTimerEnd_later e _ hlater

theorem exec_discardExpiry_later {s : State} {k : Fin 24} {r : Request} {res : Result} {e : Nat}
    (hlater : ∃ x ∈ s.timerEnds, x < e) (h : (s.ticket k).st = .ready r res (some e)) :
    exec (.discardExpiry k) s = .next s := by
  refine congrArg Host.Outcome.next (State.unlessReset_self ?_)
  rw [h]
  exact s.atTimerEnd_later e _ hlater

/-- Settles O19: each law by the moves of the tables and of the tickets, and the notices by the acts. -/
theorem recordLawsAreKept : Obligations.RecordLawsAreKept := by
  refine ⟨fun s t hrecords hlease hnotices hstep => ?_, fun s t hs hstep => step_keeps_timerLaw hs hstep,
    fun s t k r res d hstep => ⟨step_ready hstep, fun h hbefore => ?_⟩, fun s hs => ?_,
    fun s k r d res e hlater => ⟨exec_holdExpiry_later hlater, exec_discardExpiry_later hlater⟩⟩
  · exact ⟨step_keeps_recordsValid hrecords hstep, step_keeps_leaseLaw hlease hstep,
      t.noticeLaw_iff.2 (step_keeps_noticesLawful (s.noticeLaw_iff.1 hnotices) hstep)⟩
  · exact step_becomes_ready hstep h hbefore
  · obtain ⟨_, hahead⟩ := hs
    exact State.TimersAhead.all hahead

/-! ### The state after reset -/

theorem State.reset_directLaw : State.reset.DirectLaw := by
  intro n k j hk
  rw [State.reset_ticket k] at hk
  cases hk

/-- Settles O6: each law of the values after reset. -/
theorem lawsHoldAtReset : Obligations.LawsHoldAtReset :=
  ⟨State.reset_disjoint, State.reset_recordsValid, State.reset_ticketLaw, State.reset_directLaw,
    State.reset.creditLaw_iff.2 owing_reset, slotLaws_reset.probe, State.reset_leaseLaw,
    State.reset.noticeLaw_iff.2 State.reset_noticesLawful, slotLaws_reset.range, rfl,
    State.timerLaw_of_nil State.reset_timerEnds⟩

end Sys2Proof.Machine

/-! PROOF. The statements of 02_the_ticket_table.md about commands and events: claims, cancels, settings, the two timers
and completion; then the admission of a ticketed request and the grants of the arbiter. -/

namespace Sys2Proof.Machine

/-! ### The ticket that an id names (R33) -/

theorem State.named_self (s : State) (t : Fin 24) :
    s.named (byte t.val) ((s.ticket t).gen.setWidth 8) = some t := by
  have hgen : ((s.ticket t).gen.setWidth 8).toNat = (s.ticket t).gen.toNat :=
    BitVec.toNat_setWidth_of_le (by decide)
  simp only [State.named, ticketOf_byte, hgen, if_true]

/-- An id with a number or a generation out of range, or of another generation, names no ticket. -/
theorem State.named_none {s : State} {number gen : Byte}
    (h : 24 ≤ number.toNat ∨ 16 ≤ gen.toNat ∨ ∃ t : Fin 24, number = byte t.val ∧ gen ≠ (s.ticket t).gen.setWidth 8) :
    s.named number gen = none := by
  unfold State.named
  rcases h with h | h | ⟨t, rfl, hgen⟩
  · rw [ticketOf_none number h]
  · split
    · next t _ =>
      have hlt := (s.ticket t).gen.isLt
      exact if_neg (by omega)
    · rfl
  · rw [ticketOf_byte]
    refine if_neg fun heq => hgen (BitVec.eq_of_toNat_eq ?_)
    rw [heq]
    exact (BitVec.toNat_setWidth_of_le (by decide)).symm

/-! ### CLAIM and CANCEL -/

section
variable {s : State} {n : Link} (tag : Byte) (hserves : s.serves n)
include hserves

theorem exec_claim_named (t : Fin 24) :
    exec (.claim n tag (byte t.val) ((s.ticket t).gen.setWidth 8)) s = .next ((s.counted n).claimTicket n tag t) := by
  have hnamed : (s.counted n).named (byte t.val) ((s.ticket t).gen.setWidth 8) = some t := s.named_self t
  refine congrArg Host.Outcome.next ((s.dispatch_serves n _ _ hserves).trans ?_)
  rw [hnamed]

theorem exec_cancel_named (t : Fin 24) :
    exec (.cancel n tag (byte t.val) ((s.ticket t).gen.setWidth 8)) s = .next ((s.counted n).cancelTicket n tag t) := by
  have hnamed : (s.counted n).named (byte t.val) ((s.ticket t).gen.setWidth 8) = some t := s.named_self t
  refine congrArg Host.Outcome.next ((s.dispatch_serves n _ _ hserves).trans ?_)
  rw [hnamed]

theorem exec_claim_unnamed {number gen : Byte} (h : s.named number gen = none) :
    exec (.claim n tag number gen) s = .next (s.answered n [.result tag (.fail .noTicket)]) := by
  have hnamed : (s.counted n).named number gen = none := h
  refine congrArg Host.Outcome.next ((s.dispatch_serves n _ _ hserves).trans ?_)
  rw [hnamed]
  exact s.form_answered n _ hserves

theorem exec_cancel_unnamed {number gen : Byte} (h : s.named number gen = none) :
    exec (.cancel n tag number gen) s = .next (s.answered n [.result tag (.fail .noTicket)]) := by
  have hnamed : (s.counted n).named number gen = none := h
  refine congrArg Host.Outcome.next ((s.dispatch_serves n _ _ hserves).trans ?_)
  rw [hnamed]
  exact s.form_answered n _ hserves

end

/-- A claim by the state of the ticket (R45). -/
theorem State.claimTicket_eq {s : State} {n : Link} (hserves : s.serves n) (tag : Byte) (t : Fin 24) :
    (s.counted n).claimTicket n tag t =
      match (s.ticket t).st with
      | .ready r res _ =>
        if r.owner = n then
          { s.answered n [.result tag res.answer] with tickets := s.tickets.set t ⟨(s.ticket t).gen + 1, .free⟩ }
        else s.answered n [.result tag (.fail .noTicket)]
      | .queued r _ .deferred =>
        if r.owner = n then s.answered n [.result tag (.pending t (s.ticket t).gen)]
        else s.answered n [.result tag (.fail .noTicket)]
      | .issued r _ .deferred =>
        if r.owner = n then s.answered n [.result tag (.pending t (s.ticket t).gen)]
        else s.answered n [.result tag (.fail .noTicket)]
      | _ => s.answered n [.result tag (.fail .noTicket)] := by
  have hticket : (s.counted n).ticket t = s.ticket t := rfl
  have hform (f : OutFrame) := s.form_answered n f hserves
  unfold State.claimTicket State.answerNoTicket
  rw [hticket]
  simp only [hform]
  cases (s.ticket t).st with
  | queued r d m | issued r d m => cases m <;> rfl
  | ready | detached | free => rfl

/-- Settles O20: the claim of a named ticket by its state, and the answer to an id that names none. -/
theorem claimAnswersByTheTicket : Obligations.ClaimAnswersByTheTicket := by
  refine fun s n tag hserves => ⟨fun t => ?_, fun number gen h => exec_claim_unnamed tag hserves (State.named_none h)⟩
  refine (exec_claim_named tag hserves t).trans
    (congrArg Host.Outcome.next ((State.claimTicket_eq hserves tag t).trans ?_))
  cases (s.ticket t).st with
  | queued r d m | issued r d m => cases m <;> rfl
  | ready | detached | free => rfl

/-- A frame formed after the tickets and the queues have been written (R195). -/
theorem State.form_written (s : State) (n : Link) (f : OutFrame) (x : Vector Ticket 24) (q : PerLink (List WorkEntry)) :
    ({ s with tickets := x, queues := q } : State).form n f = { s.form n f with tickets := x, queues := q } := rfl

/-- A cancel by the state of the ticket (R47). -/
theorem State.cancelTicket_eq {s : State} {n : Link} (hserves : s.serves n) (tag : Byte) (t : Fin 24) :
    (s.counted n).cancelTicket n tag t =
      match (s.ticket t).st with
      | .queued r _ .deferred =>
        if r.owner = n then
          { s.answered n [.result tag .cancelled] with
            tickets := s.tickets.set t ⟨(s.ticket t).gen + 1, .free⟩
            queues := s.queues.set n ((s.queue n).filter (· ≠ .ticketed t)) }
        else s.answered n [.result tag (.fail .noTicket)]
      | .issued r _ .deferred =>
        if r.owner = n then
          { s.answered n [.result tag .detached] with tickets := s.tickets.set t ⟨(s.ticket t).gen, .detached r⟩ }
        else s.answered n [.result tag (.fail .noTicket)]
      | .ready r _ _ =>
        if r.owner = n then
          { s.answered n [.result tag .discarded] with tickets := s.tickets.set t ⟨(s.ticket t).gen + 1, .free⟩ }
        else s.answered n [.result tag (.fail .noTicket)]
      | _ => s.answered n [.result tag (.fail .noTicket)] := by
  have hticket : (s.counted n).ticket t = s.ticket t := rfl
  have hform (f : OutFrame) := s.form_answered n f hserves
  have hwritten (x : Vector Ticket 24) (q : PerLink (List WorkEntry)) (f : OutFrame) :
      ({ s.counted n with tickets := x, queues := q } : State).form n f =
        { s.answered n [f] with tickets := x, queues := q } := by
    rw [(s.counted n).form_written n f x q, hform f]
  unfold State.cancelTicket State.answerNoTicket
  rw [hticket]
  simp only [hform]
  cases (s.ticket t).st with
  | queued r d m =>
    cases m with
    | direct e => rfl
    | deferred =>
      dsimp only
      split
      · exact hwritten _ _ _
      · rfl
  | issued r d m =>
    cases m with
    | direct e => rfl
    | deferred =>
      dsimp only
      split
      · exact hwritten _ _ _
      · rfl
  | ready r x d =>
    dsimp only
    split
    · exact hwritten _ _ _
    · rfl
  | detached | free => rfl

/-- Settles O21: the cancel of a named ticket by its state, and the answer to an id that names none. -/
theorem cancelActsByTheTicket : Obligations.CancelActsByTheTicket := by
  refine fun s n tag hserves => ⟨fun t => ?_, fun number gen h => exec_cancel_unnamed tag hserves (State.named_none h)⟩
  refine (exec_cancel_named tag hserves t).trans
    (congrArg Host.Outcome.next ((State.cancelTicket_eq hserves tag t).trans ?_))
  cases (s.ticket t).st with
  | queued r d m | issued r d m => cases m <;> rfl
  | ready | detached | free => rfl

/-! ### Completion and the two timers of a ticket -/

theorem State.completeRequest_direct (s : State) (t : Fin 24) (r : Request) (e : Nat) (res : Result) :
    s.completeRequest t r (.direct e) res = { s.offered r.owner [.result r.tag res.answer] with
      tickets := s.tickets.set t ⟨(s.ticket t).gen + 1, .free⟩ } := by
  rw [← s.form_offered r.owner _]
  rfl

theorem State.complete_of_request {s : State} {t : Fin 24} {r : Request} {d : List Byte} {m : ReplyMode}
    (h : (s.ticket t).st = .queued r d m ∨ (s.ticket t).st = .issued r d m) (res : Result) :
    s.complete t res = s.completeRequest t r m res := by
  unfold State.complete
  rcases h with h | h <;> rw [h]

/-- Settles O25: a DIRECT ticket is answered and freed, a DEFERRED one becomes READY, a DETACHED one is freed. -/
theorem completionActsByTheReplyMode : Obligations.CompletionActsByTheReplyMode := by
  intro s t r d e res
  refine ⟨fun h => ?_, fun h => ?_, fun h => ?_⟩
  · rw [State.complete_of_request h]
    exact s.completeRequest_direct t r e res
  · rw [State.complete_of_request h]
    rfl
  · unfold State.complete
    rw [h]
    rfl

theorem State.expireHold_eq (s : State) (t : Fin 24) (r : Request) (st : TicketState) :
    s.expireHold t r st = { s.offered r.owner [.result r.tag (.pending t (s.ticket t).gen)] with
      tickets := s.tickets.set t ⟨(s.ticket t).gen, st⟩ } := by
  rw [← s.form_offered r.owner _]
  rfl

/-- Frames formed as time passes (R195). -/
theorem State.offered_toward (s : State) (e : Nat) (n : Link) (fs : List OutFrame) :
    (s.toward e).offered n fs = { s.offered n fs with now := max s.now e } := by
  unfold State.offered
  have hports : (s.toward e).ports = s.ports := rfl
  rw [hports]
  split <;> rfl

/-- Settles O23: where its timer is the first to end, the DIRECT ticket is answered PENDING and is DEFERRED. -/
theorem holdExpiryAnswersPending : Obligations.HoldExpiryAnswersPending := by
  intro s t r d e hreset
  have hexpires (st : TicketState) (hfirst : ∀ x ∈ s.timerEnds, e ≤ x) :
      s.atTimerEnd e (·.expireHold t r st) =
        { s.offered r.owner [.result r.tag (.pending t (s.ticket t).gen)] with
          now := max s.now e, tickets := s.tickets.set t ⟨(s.ticket t).gen, st⟩ } := by
    rw [s.atTimerEnd_first e _ hfirst, (s.toward e).expireHold_eq t r st, s.offered_toward e]
    rfl
  refine ⟨fun h hfirst => ⟨max s.now e, ?_⟩, fun h hfirst => ⟨max s.now e, ?_⟩, fun h => ?_⟩ <;>
    refine congrArg Host.Outcome.next ((s.unlessReset_next _ hreset).trans ?_)
  · rw [h]
    exact hexpires _ hfirst
  · rw [h]
    exact hexpires _ hfirst
  · cases hst : (s.ticket t).st with
    | queued r d m | issued r d m =>
      cases m with
      | direct e => rw [hst] at h; cases h
      | deferred => rfl
    | ready | detached | free => rfl

/-- Settles O24: where its deadline is the first timer to end, the READY ticket is freed, counted and reported. -/
theorem discardExpiryFreesTheTicket : Obligations.DiscardExpiryFreesTheTicket := by
  intro s t hreset
  refine ⟨fun r res d h hfirst => ⟨max s.now d, ?_⟩, fun h => ?_⟩ <;>
    refine congrArg Host.Outcome.next ((s.unlessReset_next _ hreset).trans ?_)
  · rw [h]
    exact s.atTimerEnd_first d _ hfirst
  · cases hst : (s.ticket t).st with
    | ready r res d =>
      cases d with
      | some d => exact absurd hst (h r res d)
      | none => rfl
    | queued | issued | detached | free => rfl

/-! ### Settings -/

section
variable {s : State} {n : Link} (tag : Byte) (hserves : s.serves n)
include hserves

theorem exec_setQuota_other (hother : s.holdsLease n = false) (l q : Byte) :
    exec (.setQuota n tag [l, q]) s = .next (s.replied n tag 0x20 .notOwner []) :=
  congrArg Host.Outcome.next (s.manage_notOwner n tag _ 2 [l, q] ownerSetQuota _ hserves rfl hother)

variable (hlease : s.holdsLease n = true)
include hlease

theorem exec_setQuota (m : Link) {q : Byte} (hlow : 1 ≤ q.toNat) (hhigh : q.toNat ≤ 24) :
    exec (.setQuota n tag [m.num, q]) s =
      .next ({ s with quota := s.quota.set m q.toNat }.replied n tag 0x20 .ok [q]) := by
  refine Arrives.exec_written (fun _ => rfl) hserves rfl (fun _ => hlease) ?_ rfl
  simp only [ownerSetQuota, linkOf_num]
  rw [if_pos ⟨hlow, hhigh⟩]
  rfl

theorem exec_setQuota_badValue {l q : Byte} (h : 2 ≤ l.toNat ∨ q.toNat = 0 ∨ 25 ≤ q.toNat) :
    exec (.setQuota n tag [l, q]) s = .next (s.replied n tag 0x20 .badValue []) := by
  refine Arrives.exec_replied (fun _ => rfl) hserves rfl (fun _ => hlease) ?_
  unfold ownerSetQuota
  dsimp only
  split
  · next m hm =>
    have hl : ¬2 ≤ l.toNat := fun hl => by rw [linkOf_none l hl] at hm; cases hm
    rw [if_neg (by omega)]
    rfl
  · rfl

theorem exec_setDiscard (d : DiscardSelection) :
    exec (.setDiscard n tag [d.code]) s = .next ({ s with discard := d }.replied n tag 0x21 .ok [d.code]) := by
  refine Arrives.exec_written (fun _ => rfl) hserves rfl (fun _ => hlease) ?_ rfl
  simp only [ownerSetDiscard, discardOf_code]
  rfl

theorem exec_setDiscard_badValue {b : Byte} (h : 4 ≤ b.toNat) :
    exec (.setDiscard n tag [b]) s = .next (s.replied n tag 0x21 .badValue []) := by
  refine Arrives.exec_replied (fun _ => rfl) hserves rfl (fun _ => hlease) ?_
  simp only [ownerSetDiscard, discardOf_none b h]
  rfl

theorem exec_setBpTimeout (x : TimeoutSelection) :
    exec (.setBpTimeout n tag [x.code]) s = .next ({ s with timeoutSel := x }.replied n tag 0x30 .ok [x.code]) := by
  refine Arrives.exec_written (fun _ => rfl) hserves rfl (fun _ => hlease) ?_ rfl
  simp only [ownerSetBpTimeout, timeoutOf_code]
  rfl

theorem exec_setBpTimeout_badValue {b : Byte} (h : 3 ≤ b.toNat) :
    exec (.setBpTimeout n tag [b]) s = .next (s.replied n tag 0x30 .badValue []) := by
  refine Arrives.exec_replied (fun _ => rfl) hserves rfl (fun _ => hlease) ?_
  simp only [ownerSetBpTimeout, timeoutOf_none b h]
  rfl

theorem exec_setFaultLimit {b : Byte} (hlow : 1 ≤ b.toNat) (hhigh : b.toNat ≤ 7) :
    exec (.setFaultLimit n tag [b]) s = .next ({ s with faultLimit := b.toNat }.replied n tag 0x33 .ok [b]) := by
  refine Arrives.exec_written (fun _ => rfl) hserves rfl (fun _ => hlease) ?_ rfl
  exact if_pos ⟨hlow, hhigh⟩

theorem exec_setFaultLimit_badValue {b : Byte} (h : b.toNat = 0 ∨ 8 ≤ b.toNat) :
    exec (.setFaultLimit n tag [b]) s = .next (s.replied n tag 0x33 .badValue []) := by
  refine Arrives.exec_replied (fun _ => rfl) hserves rfl (fun _ => hlease) ?_
  exact if_neg (by omega)

end

/-- Settles O22: each setting takes its value, and a value out of range is refused. -/
theorem settingsTakeTheirValue : Obligations.SettingsTakeTheirValue :=
  ⟨fun _ _ tag hserves =>
    ⟨fun hlease => ⟨fun m _ hlow hhigh => exec_setQuota tag hserves hlease m hlow hhigh,
        fun _ _ h => exec_setQuota_badValue tag hserves hlease h⟩,
      fun hother l q => exec_setQuota_other tag hserves hother l q⟩,
    fun _ _ tag hserves hlease =>
      ⟨exec_setDiscard tag hserves hlease, fun _ h => exec_setDiscard_badValue tag hserves hlease h,
        exec_setBpTimeout tag hserves hlease, fun _ h => exec_setBpTimeout_badValue tag hserves hlease h,
        fun _ hlow hhigh => exec_setFaultLimit tag hserves hlease hlow hhigh,
        fun _ h => exec_setFaultLimit_badValue tag hserves hlease h⟩⟩

/-! ### The admission of a ticketed request -/

/-- The answer that a new ticket forms at once: PENDING, when it is DEFERRED (R37). -/
def State.admissionFrames (s : State) (t : Fin 24) (tag : Byte) (m : ReplyMode) : List OutFrame :=
  if m = .deferred then [.result tag (.pending t (s.ticket t).gen)] else []

theorem State.answered_nil (s : State) (n : Link) : s.answered n [] = s.counted n := by
  simp [State.answered, State.counted]

/-- A counted request under a FREE ticket (R36, R74). -/
theorem State.counted_allocate {s : State} {n : Link} (hserves : s.serves n) (t : Fin 24) {r : Request}
    (howner : r.owner = n) (data : List Byte) (hold : Option Nat) :
    (s.counted n).allocate t r data hold =
      { s.answered n (s.admissionFrames t r.tag (s.startMode n hold)) with
        tickets := s.tickets.set t ⟨(s.ticket t).gen, .queued r data (s.startMode n hold)⟩
        queues := s.queues.set n (s.queue n ++ [.ticketed t]) } := by
  subst howner
  have hmode : (s.counted r.owner).startMode r.owner hold = s.startMode r.owner hold := rfl
  unfold State.allocate State.admissionFrames
  rw [hmode]
  cases s.startMode r.owner hold with
  | direct e =>
    rw [if_neg (by simp), State.answered_nil]
    rfl
  | deferred =>
    rw [if_pos rfl, ← s.form_answered r.owner _ hserves]
    rfl

theorem State.admitTicketed_admits {s : State} {w : WindowRecord} {r : Request} {t : Fin 24}
    (hroom : s.ticketedCount r.owner < 16) (hquota : s.holding r.owner < s.quota.get r.owner)
    (hfree : s.lowestFree = some t) (data : List Byte) : s.admitTicketed w r data = s.allocate t r data w.hold := by
  unfold State.admitTicketed
  rw [if_neg (show ¬Config.ticketedBound ≤ _ from Nat.not_le.2 hroom), if_neg (Nat.not_le.2 hquota), hfree]

/-- A counted ticketed request that passes the checks and finds a ticket (R70, R71, R74). -/
theorem State.counted_ticketedRequest_admitted {s : State} {n : Link} {op : TicketOp} {a : UpAddr} {len : Nat}
    {w : WindowRecord} {t : Fin 24} (tag : Byte) (data : List Byte)
    (h : s.admission n op.permission a len = .ok w) (hroom : s.ticketedCount n < 16)
    (hquota : s.holding n < s.quota.get n) (hfree : s.lowestFree = some t) :
    (s.counted n).ticketedRequest n tag op a len data =
      (s.counted n).allocate t (w.request n tag op a len) data w.hold := by
  rw [State.ticketedRequest_passes _ n tag op a len data w (by simpa using h)]
  exact State.admitTicketed_admits (s := s.counted n) (r := w.request n tag op a len) hroom hquota hfree data

/-- Settles O32: READ and WRITE_CONFIRMED are ticketed requests, whose admission is said once for both. -/
theorem ticketedRequestsAreAdmitted : Obligations.TicketedRequestsAreAdmitted := by
  intro s n tag a len data w t hserves hroom hquota hfree
  refine ⟨fun hpass => ?_, fun hpass hlen => ?_⟩
  · rw [exec_read_serves s n tag a len hserves,
      State.counted_ticketedRequest_admitted (op := .read) tag [] hpass hroom hquota hfree,
        State.counted_allocate hserves t rfl]
    rfl
  · have hmax : data.length ≤ 249 := by
      have := State.len_le_of_admission hpass
      omega
    rw [exec_writeConfirmed_serves s n tag a len data hserves hlen hmax,
      State.counted_ticketedRequest_admitted (op := .confirmedWrite) tag data hpass hroom hquota hfree,
      State.counted_allocate hserves t rfl]
    rfl

/-! ### The arbiter -/

theorem State.online_iff (s : State) (i : Fin 16) : s.online i = true ↔ (s.slot i).state = .online := by
  simp [State.online]

/-- An entry names a slot: its own, or that of the QUEUED ticket it names (R86). -/
theorem State.entrySlot_eq_some_iff (s : State) (e : WorkEntry) (i : Fin 16) : s.entrySlot e = some i ↔
    (∃ p, e = .posted p ∧ p.slot = i) ∨ ∃ t r d m, e = .ticketed t ∧ (s.ticket t).st = .queued r d m ∧ r.slot = i := by
  cases e with
  | posted p => simp [State.entrySlot]
  | ticketed t =>
    rw [s.entrySlot_ticketed t i]
    simp

theorem State.headEligible_iff (s : State) (n : Link) : s.headEligible n = true ↔
    ∃ e rest slot, s.queue n = e :: rest ∧ s.entrySlot e = some slot ∧ s.online slot = true := by
  unfold State.headEligible
  cases s.queue n with
  | nil => simp
  | cons e rest =>
    cases hslot : s.entrySlot e with
    | none => simp [hslot]
    | some i => simp [hslot]

theorem State.eligible_sourceOf (s : State) (n : Link) : s.eligible (sourceOf n) = s.headEligible n := by
  cases n <;> rfl

theorem State.eligible_prq_iff (s : State) : s.eligible .prq = true ↔ s.probes ≠ [] := by
  cases h : s.probes <;> simp [State.eligible, h]

/-- The first eligible source in the order of the pointer (R90). -/
theorem State.chosen_iff (s : State) (src : Source) : s.chosen = some src ↔
    s.eligible src = true ∧
      (src = s.pointer ∨ s.eligible s.pointer = false ∧
        (src = s.pointer.next ∨ s.eligible s.pointer.next = false ∧ src = s.pointer.next.next)) := by
  unfold State.chosen
  simp only [List.find?_cons, List.find?_nil]
  cases h0 : s.eligible s.pointer with
  | true =>
    simp only [Option.some.injEq, reduceCtorEq, false_and, or_false]
    exact ⟨fun h => ⟨h ▸ h0, h.symm⟩, fun ⟨_, h⟩ => h.symm⟩
  | false =>
    have hne : s.eligible src = true → src ≠ s.pointer := fun h e => by rw [e, h0] at h; cases h
    cases h1 : s.eligible s.pointer.next with
    | true =>
      simp only [Option.some.injEq, true_and, reduceCtorEq, false_and, or_false]
      exact ⟨fun h => ⟨h ▸ h1, .inr h.symm⟩, fun ⟨he, h⟩ => (h.resolve_left (hne he)).symm⟩
    | false =>
      have hne' : s.eligible src = true → src ≠ s.pointer.next := fun h e => by rw [e, h1] at h; cases h
      cases h2 : s.eligible s.pointer.next.next with
      | true =>
        simp only [Option.some.injEq, true_and]
        exact ⟨fun h => ⟨h ▸ h2, .inr (.inr h.symm)⟩,
          fun ⟨he, h⟩ => ((h.resolve_left (hne he)).resolve_left (hne' he)).symm⟩
      | false =>
        simp only [reduceCtorEq, true_and, false_iff, not_and, not_or]
        exact fun he => ⟨hne he, hne' he, fun e => by rw [e, h2] at he; cases he⟩

theorem exec_arbiterGrant_chosen {s : State} {src : Source} (hreset : s.resetPin = false) (hidle : s.bpc = .idle)
    (hchosen : s.chosen = some src) : exec .arbiterGrant s = .next (s.grant src) := by
  refine congrArg Host.Outcome.next ((s.unlessReset_next _ hreset).trans ?_)
  rw [hidle, hchosen]

theorem State.grant_sourceOf (s : State) (n : Link) :
    s.grant (sourceOf n) = ({ s with pointer := (sourceOf n).next } : State).grantQueue n := by
  cases n <;> rfl

theorem Operation.code_ticketed (t : Fin 24) (r : Request) (d : List Byte) :
    (Operation.ticketed t r d).code = if r.op = .read then .read else .write := by
  unfold Operation.code
  dsimp only
  cases r.op <;> rfl

theorem Slot.issueProbe_of_probing {r : Slot} {st : ProbeStage} {prior : PriorState}
    (h : r.state = .probing st prior) : r.issueProbe = { r with state := .probing .issued prior } := by
  unfold Slot.issueProbe
  rw [h]

/-- Settles O37: the eligible sources, the one that is chosen, and the grant of its head. -/
theorem grantStartsTheTransaction : Obligations.GrantStartsTheTransaction := by
  refine ⟨fun s n => ?_, fun s => s.eligible_prq_iff, fun s n rest hreset hidle hchosen =>
    ⟨fun e hq => ?_, fun t r d m hq hst => ?_⟩, fun s i rest st prior hreset hidle hchosen hp hst => ?_,
    fun s src => s.chosen_iff src⟩
  · rw [s.eligible_sourceOf n, s.headEligible_iff n]
    simp only [s.entrySlot_eq_some_iff, s.online_iff]
    exact exists_congr fun e => exists_congr fun rest => exists_congr fun slot => and_congr_right fun _ => and_comm
  · rw [exec_arbiterGrant_chosen hreset hidle hchosen, s.grant_sourceOf n,
      State.grantQueue_posted { s with pointer := (sourceOf n).next } hq]
    rfl
  · rw [exec_arbiterGrant_chosen hreset hidle hchosen, s.grant_sourceOf n,
      State.grantQueue_ticketed { s with pointer := (sourceOf n).next } hq hst, State.startSelect,
        Operation.code_ticketed]
    rfl
  · have hgrant : s.grant .prq = ({ s with pointer := .wq0 } : State).grantProbe := rfl
    have hissue := Slot.issueProbe_of_probing hst
    rw [exec_arbiterGrant_chosen hreset hidle hchosen, hgrant, State.grantProbe_cons { s with pointer := .wq0 } hp]
    refine congrArg Host.Outcome.next ?_
    rw [← hissue]
    rfl

end Sys2Proof.Machine

/-! PROOF. The revocation pass of R95 and R96 as a whole, the gate reset of R178 and the link reset of R190: for each of
them the tickets, the queues, the ports and, for the gate reset, the slots and the notices that it leaves. -/

namespace Sys2Proof.Machine

/-! ### Frames offered to a port -/

/-- A port that is offered frames: they are appended while it is UP, and discarded while it is DOWN (R195). -/
def Port.offer (p : Port) (fs : List OutFrame) : Port :=
  if p.up then { p with outbound := p.outbound ++ fs } else p

theorem Port.offer_of_down {p : Port} (h : p.up = false) (fs : List OutFrame) : p.offer fs = p :=
  if_neg (by simp [h])

theorem Port.offer_of_up {p : Port} (h : p.up = true) (fs : List OutFrame) :
    p.offer fs = { p with outbound := p.outbound ++ fs } := if_pos h

theorem Port.offer_nil (p : Port) : p.offer [] = p := by
  unfold Port.offer
  split
  · rw [List.append_nil]
  · rfl

theorem Port.offer_up (p : Port) (fs : List OutFrame) : (p.offer fs).up = p.up := by
  unfold Port.offer
  split <;> rfl

theorem Port.offer_offer (p : Port) (fs gs : List OutFrame) : (p.offer fs).offer gs = p.offer (fs ++ gs) := by
  cases h : p.up with
  | false => rw [p.offer_of_down h, p.offer_of_down h, p.offer_of_down h]
  | true =>
    have hfirst : (p.offer fs).up = true := (p.offer_up fs).trans h
    rw [Port.offer_of_up hfirst, p.offer_of_up h, p.offer_of_up h, List.append_assoc]

/-! ### The test of the pass (R95) -/

theorem resolvesAlike_iff (active : Vector (Option WindowRecord) 32) (n : Link) (need : Permission) (up : UpAddr)
    (len : Nat) (slot : Fin 16) (addr : ModAddr) (width : Width) :
    resolvesAlike active n need up len slot addr width = true ↔ ∃ (i : Fin 32) (r q : WindowRecord),
      lookup active up = some (i, r) ∧ lookup active (up + BitVec.ofNat 32 len - 1) = some (i, q) ∧
        r.slot = slot ∧ r.translate up = addr ∧ r.width = width ∧ (r.rights.get n).permits need = true := by
  unfold resolvesAlike
  cases lookup active up with
  | none => simp
  | some found =>
    obtain ⟨i, r⟩ := found
    simp only [decide_eq_true_eq, Option.some.injEq, Prod.mk.injEq, Option.map_eq_some_iff, Prod.exists]
    constructor
    · rintro ⟨⟨j, q, hq, hj⟩, hrest⟩
      exact ⟨i, r, q, ⟨rfl, rfl⟩, hj ▸ hq, hrest⟩
    · rintro ⟨_, _, q, ⟨rfl, rfl⟩, hq, hrest⟩
      exact ⟨⟨i, q, hq, rfl⟩, hrest⟩

theorem TicketOp.permission_eq (op : TicketOp) : op.permission = if op = .read then .read else .write := by
  cases op <;> rfl

theorem State.survives_queued {s : State} {t : Fin 24} {r : Request} {d : List Byte} {m : ReplyMode}
    (h : (s.ticket t).st = .queued r d m) (n : Link) : s.survives n (.ticketed t) =
      resolvesAlike s.active n r.op.permission r.upstream r.len r.slot r.addr r.width := by
  unfold State.survives
  dsimp only
  rw [h]

/-! ### What the pass answers and counts (R96) -/

/-- The answer to a ticket that the pass completes: to a DIRECT one at once. -/
def State.revokedAnswer (s : State) : WorkEntry → Option OutFrame
  | .posted _ => none
  | .ticketed t =>
    match (s.ticket t).st with
    | .queued r _ (.direct _) => some (.result r.tag (.fail .revoked))
    | _ => none

theorem State.revokedAnswer_congr {s t : State} {e : WorkEntry} (h : ∀ k, e = .ticketed k → t.ticket k = s.ticket k) :
    t.revokedAnswer e = s.revokedAnswer e := by
  cases e with
  | posted p => rfl
  | ticketed k =>
    unfold State.revokedAnswer
    dsimp only
    rw [h k rfl]

theorem State.complete_port_of_queued {s : State} {t : Fin 24} {r : Request} {d : List Byte} {m : ReplyMode}
    (h : (s.ticket t).st = .queued r d m) (l : Link) : (s.complete t (.fail .revoked)).port l =
      if l = r.owner then (s.port l).offer (s.revokedAnswer (.ticketed t)).toList else s.port l := by
  rw [State.complete_of_request (.inl h)]
  unfold State.revokedAnswer
  dsimp only
  rw [h]
  cases m with
  | direct e =>
    refine (s.form_port r.owner l _).trans ?_
    split
    · next hl => rw [hl]; rfl
    · rfl
  | deferred =>
    have hsame : (s.completeRequest t r .deferred (.fail .revoked)).port l = s.port l := rfl
    rw [hsame]
    split
    · exact (Port.offer_nil _).symm
    · rfl

/-- Entries that the pass may remove: each is posted or of a QUEUED ticket of its link, and no two name one ticket. -/
structure State.Revocable (s : State) (n : Link) (es : List WorkEntry) : Prop where
  queued : ∀ t, .ticketed t ∈ es → ∃ r d m, (s.ticket t).st = .queued r d m ∧ r.owner = n
  once : ∀ t, es.count (.ticketed t) ≤ 1

theorem State.Revocable.tail {s : State} {n : Link} {e : WorkEntry} {es : List WorkEntry}
    (h : s.Revocable n (e :: es)) : s.Revocable n es := by
  obtain ⟨hqueued, honce⟩ := h
  exact ⟨fun t ht => hqueued t (List.mem_cons_of_mem e ht),
    fun t => (List.count_le_count_cons).trans (honce t)⟩

theorem State.Revocable.head_not_mem {s : State} {n : Link} {t : Fin 24} {es : List WorkEntry}
    (h : s.Revocable n (.ticketed t :: es)) : WorkEntry.ticketed t ∉ es := by
  have hone := h.once t
  rw [List.count_cons_self] at hone
  exact fun hmem => absurd (List.one_le_count_iff.2 hmem) (by omega)

theorem State.Revocable.congr {s t : State} {n : Link} {es : List WorkEntry} (h : s.Revocable n es)
    (hticket : ∀ k, .ticketed k ∈ es → t.ticket k = s.ticket k) : t.Revocable n es :=
  ⟨fun k hk => by rw [hticket k hk]; exact h.queued k hk, h.once⟩

/-- Removing the entries answers the DIRECT tickets among them in the order of the queue. -/
theorem State.revokeEntries_port {n : Link} {es : List WorkEntry} {s : State} (h : s.Revocable n es) (l : Link) :
    (es.foldl (fun s e => s.revokeEntry n e) s).port l =
      if l = n then (s.port l).offer (es.filterMap s.revokedAnswer) else s.port l := by
  induction es generalizing s with
  | nil =>
    rw [List.filterMap_nil, Port.offer_nil, ite_self]
    rfl
  | cons e es ih =>
    rw [List.foldl_cons]
    cases e with
    | posted p => exact ih (h.tail.congr fun _ _ => rfl)
    | ticketed t =>
      obtain ⟨r, d, m, hst, howner⟩ := h.queued t List.mem_cons_self
      have hother (k : Fin 24) (hk : .ticketed k ∈ es) :
          (s.revokeEntry n (.ticketed t)).ticket k = s.ticket k := by
        refine (s.complete_ticket t k _).trans (if_neg fun e => h.head_not_mem ?_)
        rw [← e]
        exact hk
      have hanswers : es.filterMap (s.revokeEntry n (.ticketed t)).revokedAnswer = es.filterMap s.revokedAnswer :=
        List.filterMap_congr fun e he => State.revokedAnswer_congr fun k hk => hother k (hk ▸ he)
      have hport : (s.revokeEntry n (.ticketed t)).port l = if l = n then
          (s.port l).offer (s.revokedAnswer (.ticketed t)).toList else s.port l := by
        rw [← howner]
        exact State.complete_port_of_queued hst l
      rw [ih (h.tail.congr hother), hanswers, hport]
      split
      · rw [Port.offer_offer]
        cases hanswer : s.revokedAnswer (.ticketed t) with
        | none => rw [List.filterMap_cons_none hanswer]; rfl
        | some f => rw [List.filterMap_cons_some hanswer]; rfl
      · rfl

/-- Removing the entries counts the posted ones among them. -/
theorem State.revokeEntries_flushed (n : Link) (es : List WorkEntry) (s : State) (l : Link) :
    (es.foldl (fun s e => s.revokeEntry n e) s).flushed.get l =
      if l = n then riseBy (es.countP (·.isPosted)) (s.flushed.get l) else s.flushed.get l := by
  induction es generalizing s with
  | nil => exact (ite_self _).symm
  | cons e es ih =>
    rw [List.foldl_cons, ih]
    cases e with
    | posted p =>
      have hcount : (WorkEntry.posted p :: es).countP (·.isPosted) = es.countP (·.isPosted) + 1 :=
        List.countP_cons_of_pos rfl
      have hrise : (s.revokeEntry n (.posted p)).flushed.get l =
          if l = n then rise (s.flushed.get n) else s.flushed.get l := PerLink.get_set _ _ _ _
      rw [hcount, hrise]
      split
      · next hl => rw [hl]; rfl
      · rfl
    | ticketed t =>
      have hcount : (WorkEntry.ticketed t :: es).countP (·.isPosted) = es.countP (·.isPosted) :=
        List.countP_cons_of_neg (by simp [WorkEntry.isPosted])
      have hsame : (s.revokeEntry n (.ticketed t)).flushed = s.flushed := s.complete_flushed t _
      rw [hcount, hsame]

/-! ### The pass under law 4 -/

/-- The entries of a queue that fail the test of the pass. -/
def State.failing (s : State) (n : Link) : List WorkEntry := (s.queue n).filter fun e => !s.survives n e

theorem State.TicketsPlaced.count_queue_le {s : State} (hs : s.TicketsPlaced) (n : Link) (t : Fin 24) :
    (s.queue n).count (.ticketed t) ≤ 1 := by
  rw [show (s.queue n).count (.ticketed t) = _ from hs.entries n t]
  exact Bool.toNat_le _

theorem State.TicketsPlaced.revocable {s : State} (hs : s.TicketsPlaced) (n : Link) : s.Revocable n (s.failing n) :=
  ⟨fun t ht => (hs.mem_queue_iff n t).1 (List.mem_filter.1 ht).1,
    fun t => (List.filter_sublist.count_le _).trans (hs.count_queue_le n t)⟩

theorem State.countP_failing (s : State) (n : Link) : (s.failing n).countP (·.isPosted) = s.revokedPosted n :=
  List.countP_filter

theorem State.revokeQueue_eq (s : State) (n : Link) : s.revokeQueue n =
    (s.failing n).foldl (fun s e => s.revokeEntry n e)
      (s.setQueue n ((s.queue n).filter fun e => s.survives n e)) := rfl

theorem State.revokeQueue_port {s : State} {n : Link} (h : s.Revocable n (s.failing n)) (l : Link) :
    (s.revokeQueue n).port l =
      if l = n then (s.port l).offer ((s.failing n).filterMap s.revokedAnswer) else s.port l := by
  rw [s.revokeQueue_eq n]
  exact State.revokeEntries_port (s := s.setQueue n _) (h.congr fun _ _ => rfl) l

theorem State.revokeQueue_flushed (s : State) (n l : Link) : (s.revokeQueue n).flushed.get l =
    if l = n then riseBy (s.revokedPosted n) (s.flushed.get l) else s.flushed.get l := by
  rw [s.revokeQueue_eq n, State.revokeEntries_flushed, s.countP_failing n]
  rfl

/-- Under law 4 the pass over WQ0 leaves the tickets that entries of WQ1 name. -/
theorem State.TicketsPlaced.revokeQueue_ticket_of_mem {s : State} (hs : s.TicketsPlaced) {k : Fin 24}
    (h : .ticketed k ∈ s.queue .l1) : (s.revokeQueue .l0).ticket k = s.ticket k := by
  refine (s.revokeQueue_ticket .l0 k).trans (if_neg ?_)
  rintro ⟨hmem, _⟩
  obtain ⟨r, d, m, hst, howner⟩ := (hs.mem_queue_iff .l0 k).1 hmem
  obtain ⟨r', d', m', hst', howner'⟩ := (hs.mem_queue_iff .l1 k).1 h
  rw [hst] at hst'
  cases hst'
  rw [howner] at howner'
  cases howner'

theorem State.TicketsPlaced.revokeQueue_failing {s : State} (hs : s.TicketsPlaced) :
    (s.revokeQueue .l0).failing .l1 = s.failing .l1 := by
  unfold State.failing
  rw [show (s.revokeQueue .l0).queue .l1 = s.queue .l1 from s.revokeQueue_queue .l0 .l1]
  refine List.filter_congr fun e he => ?_
  cases e with
  | posted p => rw [State.survives_posted_congr (s.revokeQueue_active .l0)]
  | ticketed k =>
    rw [State.survives_ticketed_congr (s.revokeQueue_active .l0) (hs.revokeQueue_ticket_of_mem he)]

theorem State.TicketsPlaced.mem_queue_of_failing {s : State} {n : Link} {e : WorkEntry} (h : e ∈ s.failing n) :
    e ∈ s.queue n := (List.mem_filter.1 h).1

/-- What the two passes answer to a link (R96). -/
theorem State.TicketsPlaced.passes_port {s : State} (hs : s.TicketsPlaced) (n : Link) :
    ((s.revokeQueue .l0).revokeQueue .l1).port n = (s.port n).offer ((s.failing n).filterMap s.revokedAnswer) := by
  have hticket (k : Fin 24) (hk : .ticketed k ∈ s.failing .l1) : (s.revokeQueue .l0).ticket k = s.ticket k :=
    hs.revokeQueue_ticket_of_mem (State.TicketsPlaced.mem_queue_of_failing hk)
  have hsecond : (s.revokeQueue .l0).Revocable .l1 ((s.revokeQueue .l0).failing .l1) := by
    rw [hs.revokeQueue_failing]
    exact (hs.revocable .l1).congr hticket
  have hanswers : ((s.revokeQueue .l0).failing .l1).filterMap (s.revokeQueue .l0).revokedAnswer =
      (s.failing .l1).filterMap s.revokedAnswer := by
    rw [hs.revokeQueue_failing]
    exact List.filterMap_congr fun e he => State.revokedAnswer_congr fun k hk => hticket k (hk ▸ he)
  rw [State.revokeQueue_port hsecond n, hanswers, State.revokeQueue_port (hs.revocable .l0) n]
  cases n <;> rfl

/-- A report of a count, left out where the count is 0. -/
theorem State.reportCount_port (s : State) (n m : Link) (c : Nat) :
    (s.reportCount n c).port m = if m = n ∧ c ≠ 0 then (s.port m).report c else s.port m := by
  unfold State.reportCount
  by_cases hc : c = 0
  · simp [hc]
  · rw [if_neg hc, s.report_port n m c]
    by_cases hm : m = n
    · simp [hm, hc]
    · simp [hm]

theorem State.TicketsPlaced.revoke_port {s : State} (hs : s.TicketsPlaced) (n : Link) :
    s.revoke.port n = if s.revokedPosted n ≠ 0 then
        ((s.port n).offer ((s.failing n).filterMap s.revokedAnswer)).report (s.revokedPosted n)
      else (s.port n).offer ((s.failing n).filterMap s.revokedAnswer) := by
  unfold State.revoke
  dsimp only
  rw [State.reportCount_port, State.reportCount_port, hs.passes_port n]
  cases n <;> simp

theorem State.reportCount_flushed_eq (s : State) (n : Link) (c : Nat) : (s.reportCount n c).flushed = s.flushed :=
  State.reportCount_keeps State.flushed (fun _ _ _ => rfl) s n c

theorem State.revoke_flushed (s : State) (n : Link) :
    s.revoke.flushed.get n = riseBy (s.revokedPosted n) (s.flushed.get n) := by
  unfold State.revoke
  dsimp only
  rw [State.reportCount_flushed_eq, State.reportCount_flushed_eq, State.revokeQueue_flushed, State.revokeQueue_flushed,
    s.revokedPosted_revokeQueue]
  cases n <;> rfl

/-- A state with the fields that the traffic commands write given anew. -/
def State.withTraffic (s : State) (queues : PerLink (List WorkEntry)) (tickets : Vector Ticket 24)
    (flushed : PerLink Counter) (ports : PerLink Port) : State :=
  { s with queues := queues, tickets := tickets, flushed := flushed, ports := ports }

theorem State.eq_withTraffic {s t : State} (h : t.withTraffic t.queues t.tickets t.flushed t.ports =
    s.withTraffic t.queues t.tickets t.flushed t.ports) : t = s.withTraffic t.queues t.tickets t.flushed t.ports := h

theorem State.revoke_frame (s : State) :
    s.revoke = s.withTraffic s.revoke.queues s.revoke.tickets s.revoke.flushed s.revoke.ports := by
  refine State.eq_withTraffic ?_
  generalize s.revoke.queues = q
  generalize s.revoke.tickets = x
  generalize s.revoke.flushed = f
  generalize s.revoke.ports = p
  exact State.revoke_keeps (·.withTraffic q x f p) (fun _ _ _ => rfl) (fun _ _ _ => rfl) (fun _ _ => rfl)
    (fun _ _ => rfl) (fun _ _ => rfl) s

/-- The answers of the pass, read off the queue. -/
theorem State.failing_answers (s : State) (n : Link) : (s.failing n).filterMap s.revokedAnswer =
    (s.queue n).filterMap fun e => match e with
      | .posted _ => none
      | .ticketed t =>
        if s.survives n (.ticketed t) = true then none
        else match (s.ticket t).st with
          | .queued r _ (.direct _) => some (OutFrame.result r.tag (.fail .revoked))
          | _ => none := by
  unfold State.failing
  rw [List.filterMap_filter]
  refine List.filterMap_congr fun e _ => ?_
  cases e with
  | posted p => exact ite_self _
  | ticketed t =>
    dsimp only
    cases hsurvives : s.survives n (.ticketed t) with
    | true => rfl
    | false => rfl

/-- A port offered answers and then told of credits, as one update (R96, R193). -/
theorem Port.offer_report (p : Port) (fs : List OutFrame) (count : Nat) :
    (if count ≠ 0 then (p.offer fs).report count else p.offer fs) =
      if p.up = false then p
      else if count = 0 then { p with outbound := p.outbound ++ fs }
      else { p with
        outbound := p.outbound ++ fs ++ [.credit (p.owed + count)]
        granted := p.granted + (p.owed + count), owed := 0 } := by
  by_cases h : p.up = true
  · have hup : ¬p.up = false := by simp [h]
    rw [p.offer_of_up h]
    by_cases hc : count = 0
    · rw [if_neg (not_not.2 hc), if_neg hup, if_pos hc]
    · rw [if_pos hc, if_neg hup, if_neg hc]
      exact Port.report_up _ count h
  · have hdown : p.up = false := by simpa using h
    rw [p.offer_of_down hdown, Port.report_down p count hdown, ite_self, if_pos hdown]

/-- Settles O13: the test, the commit that makes the pass, and what the pass leaves under law 4. -/
theorem revokingCommitPassesOverTheQueues : Obligations.RevokingCommitPassesOverTheQueues := by
  refine ⟨fun s n => ⟨fun e => resolvesAlike_iff s.active n .write e.upstream e.len e.slot e.addr e.width,
      fun t r d m hst => ?_⟩,
    fun s n tag hserves hlease hstaged hpass => exec_windowCommit_applies tag hserves hlease true hstaged hpass,
    fun s hlaw => ?_⟩
  · rw [State.survives_queued hst n, TicketOp.permission_eq]
    exact resolvesAlike_iff s.active n _ r.upstream r.len r.slot r.addr r.width
  · have hs := s.ticketLaw_iff.1 hlaw
    refine ⟨hs.revoke_queue, fun t => ⟨fun r d m hfails hst => ?_, State.revoke_ticket_of_not_revokes⟩,
      s.revoke_flushed, fun n => ?_, s.revoke_frame⟩
    · rw [State.revoke_ticket_of_revokes hfails]
      unfold Ticket.completed
      rw [hst]
      cases m <;> rfl
    · rw [hs.revoke_port n, s.failing_answers n]
      exact Port.offer_report _ _ _

/-! ### The link reset (R54, R99, R154, R169, R190) -/

/-- The first three steps of a link reset: the port, the sent flags, the tickets and the queue of the link. -/
def State.unlinked (s : State) (n : Link) : State :=
  { s with
    ports := s.ports.set n { s.port n with
      outbound := if (s.port n).transmitting then (s.port n).outbound.take 1 else []
      enables := 0 }
    kinds := Vector.ofFn fun i => { s.kinds[i] with sent := s.kinds[i].sent.set n false }
    tickets := Vector.ofFn fun t => s.tickets[t].linkReset n
    queues := s.queues.set n ((s.queue n).filter (·.isPosted)) }

theorem State.updPort_updPort (s : State) (n : Link) (f g : Port → Port) :
    (s.updPort n f).updPort n g = s.updPort n fun p => g (f p) := by
  simp [State.updPort]

theorem State.linkReset_eq (s : State) (n : Link) :
    s.linkReset n = ((s.unlinked n).releaseLease n).updPort n Port.takeDown := by
  unfold State.linkReset
  rw [s.updPort_updPort n]
  rfl

/-- A lease that the link holds is released (R169). -/
theorem State.releaseLease_eq (s : State) (n : Link) : s.releaseLease n = match s.lease with
    | some l =>
      if l.holder = n then
        ({ s with lease := none, staging := .replicate 32 .none } : State).raise (.leaseChange .released n l.duration)
      else s
    | none => s := by
  unfold State.releaseLease
  cases s.lease with
  | none => rfl
  | some l =>
    dsimp only
    split
    · next h =>
      unfold State.loseLease
      rw [h]
    · rfl

theorem exec_lossOfSignal_resets {s : State} {n : Link} (hreset : s.resetPin = false) (hlow : s.losPin.get n = false) :
    exec (.lossOfSignal n true) s = .next (({ s with losPin := s.losPin.set n true } : State).linkReset n) :=
  congrArg Host.Outcome.next (if_pos ⟨rfl, hlow, hreset⟩)

theorem exec_lossOfSignal_low {s : State} {n : Link} (hlow : s.losPin.get n = false) :
    exec (.lossOfSignal n false) s = .next s := by
  have hset : s.losPin.set n false = s.losPin := by rw [← hlow, PerLink.set_get]
  rw [exec_lossOfSignal_recorded s n false (by simp), hset]

/-- Settles O57: a deassertion is recorded, and an assertion resets the link. -/
theorem lossOfSignalIsALinkReset : Obligations.LossOfSignalIsALinkReset := by
  refine ⟨fun s n _ => exec_lossOfSignal_recorded s n false (by simp), fun s n hreset hlow => ?_⟩
  intro reset released
  have htickets : reset.tickets = Vector.ofFn fun t => s.tickets[t].linkReset n := by
    refine congrArg Vector.ofFn (funext fun t => ?_)
    unfold Ticket.linkReset
    cases s.tickets[t].st <;> rfl
  have hunlinked : reset = ({ s with losPin := s.losPin.set n true } : State).unlinked n :=
    congrArg (fun x => { ({ s with losPin := s.losPin.set n true } : State).unlinked n with tickets := x }) htickets
  have hreleased : released = reset.releaseLease n := by
    refine Eq.trans ?_ (reset.releaseLease_eq n).symm
    cases hl : s.lease <;> simp only [released, hl]
  refine ⟨?_, exec_lossOfSignal_low hlow⟩
  rw [exec_lossOfSignal_resets hreset hlow, State.linkReset_eq, ← hunlinked, ← hreleased]
  rfl

/-! ### Step 1 of a gate reset: the answers to the DIRECT tickets (R55, R178) -/

/-- The answer on a link to a ticket that step 1 flushes. -/
def State.flushAnswer (s : State) (m : Link) (k : Fin 24) : Option OutFrame :=
  if (s.ticket k).st.isDirect = true ∧ (s.ticket k).st.owner? = some m then
    (s.ticket k).st.request?.map fun r => .result r.tag (.fail .flushed)
  else none

theorem State.flushAnswer_congr {s t : State} {k : Fin 24} (h : t.ticket k = s.ticket k) (m : Link) :
    t.flushAnswer m k = s.flushAnswer m k := by
  unfold State.flushAnswer
  rw [h]

/-- The answer to a DIRECT ticket goes to its owner. -/
theorem State.form_port_offer (s : State) (r : Request) (m : Link) (f : OutFrame) :
    (s.form r.owner f).port m = (s.port m).offer (if some r.owner = some m then some f else none).toList := by
  rw [s.form_port]
  by_cases h : m = r.owner
  · subst h
    rw [if_pos rfl, if_pos rfl]
    rfl
  · rw [if_neg h, if_neg fun e => h (Option.some.inj e).symm]
    exact (Port.offer_nil _).symm

theorem State.flushTicket_port (s : State) (t : Fin 24) (m : Link) :
    (s.flushTicket t).port m = (s.port m).offer (s.flushAnswer m t).toList := by
  unfold State.flushTicket State.flushAnswer
  cases (s.ticket t).st with
  | queued r d x | issued r d x =>
    cases x with
    | direct e =>
      refine (s.form_port_offer r m _).trans ?_
      simp [TicketState.isDirect, TicketState.owner?, TicketState.request?]
    | deferred => exact (Port.offer_nil _).symm
  | ready | detached | free => exact (Port.offer_nil _).symm

theorem State.flushTickets_port {ts : List (Fin 24)} (hts : ts.Nodup) (s : State) (m : Link) :
    (ts.foldl State.flushTicket s).port m = (s.port m).offer (ts.filterMap (s.flushAnswer m)) := by
  induction ts generalizing s with
  | nil => exact (Port.offer_nil _).symm
  | cons t ts ih =>
    rw [List.nodup_cons] at hts
    obtain ⟨hnew, hts⟩ := hts
    have hanswers : ts.filterMap ((s.flushTicket t).flushAnswer m) = ts.filterMap (s.flushAnswer m) := by
      refine List.filterMap_congr fun k hk => State.flushAnswer_congr ?_ m
      refine (s.flushTicket_ticket t k).trans (if_neg fun e => hnew ?_)
      rw [← e]
      exact hk
    rw [List.foldl_cons, ih hts, s.flushTicket_port t m, Port.offer_offer, hanswers]
    cases h : s.flushAnswer m t with
    | none => rw [List.filterMap_cons_none h]; rfl
    | some f => rw [List.filterMap_cons_some h]; rfl

theorem State.flushDirect_port (s : State) (m : Link) :
    s.flushDirect.port m = (s.port m).offer (ticketNumbers.filterMap (s.flushAnswer m)) :=
  State.flushTickets_port (List.nodup_finRange 24) s m

/-! ### Step 3: the work queues (R100) -/

theorem State.emptyQueue_port (s : State) (n m : Link) : (s.emptyQueue n).port m =
    if m = n ∧ s.postedCount n ≠ 0 then (s.port m).report (s.postedCount n) else s.port m :=
  State.reportCount_port _ n m _

theorem State.emptyQueue_flushed (s : State) (n m : Link) : (s.emptyQueue n).flushed.get m =
    if m = n then riseBy (s.postedCount n) (s.flushed.get n) else s.flushed.get m := by
  unfold State.emptyQueue
  dsimp only
  rw [State.reportCount_flushed_eq]
  exact PerLink.get_set _ _ _ _

theorem State.emptyQueue_postedCount (s : State) : (s.emptyQueue .l0).postedCount .l1 = s.postedCount .l1 := by
  have hqueues : (s.emptyQueue .l0).queues = s.queues.set .l0 [] := congrArg Ledger.queues (s.emptyQueue_ledger .l0)
  unfold State.postedCount State.queue
  rw [hqueues]
  rfl

theorem State.emptyQueues_port (s : State) (m : Link) : ((s.emptyQueue .l0).emptyQueue .l1).port m =
    if s.postedCount m ≠ 0 then (s.port m).report (s.postedCount m) else s.port m := by
  rw [State.emptyQueue_port, State.emptyQueue_postedCount, State.emptyQueue_port]
  cases m <;> simp

theorem State.emptyQueues_flushed (s : State) (m : Link) :
    ((s.emptyQueue .l0).emptyQueue .l1).flushed.get m = riseBy (s.postedCount m) (s.flushed.get m) := by
  rw [State.emptyQueue_flushed, State.emptyQueue_postedCount, State.emptyQueue_flushed, State.emptyQueue_flushed]
  cases m <;> rfl

theorem State.resetWork_port (s : State) (m : Link) : s.resetWork.port m =
    if s.postedCount m ≠ 0 then (s.port m).report (s.postedCount m) else s.port m := by
  unfold State.resetWork
  generalize (Vector.ofFn fun t => s.tickets[t].gateReset) = x
  exact State.emptyQueues_port { s with tickets := x } m

theorem State.resetWork_flushed (s : State) (m : Link) :
    s.resetWork.flushed.get m = riseBy (s.postedCount m) (s.flushed.get m) := by
  unfold State.resetWork
  generalize (Vector.ofFn fun t => s.tickets[t].gateReset) = x
  exact State.emptyQueues_flushed { s with tickets := x } m

/-! ### Step 4: the probe queue (R142) -/

/-- A slot that step 4 returns to the state before its probe. -/
def Slot.returned (r : Slot) : Slot :=
  match r.state with
  | .probing .queued p => { r with state := p.restored }
  | _ => r

theorem Slot.returned_of_waiting {r : Slot} {p : PriorState} (h : r.state = .probing .queued p) :
    r.returned = { r with state := p.restored } := by
  unfold Slot.returned
  rw [h]

theorem Slot.returned_of_ne {r : Slot} (h : ∀ p, r.state ≠ .probing .queued p) : r.returned = r := by
  unfold Slot.returned
  split
  · next p hst => exact absurd hst (h p)
  · rfl

theorem Slot.returned_of_not_waiting {r : Slot} (h : r.state.queuedProbes = 0) : r.returned = r := by
  refine Slot.returned_of_ne fun p hst => ?_
  rw [hst] at h
  cases h

theorem Slot.returned_returned (r : Slot) : r.returned.returned = r.returned := by
  by_cases h : ∃ p, r.state = .probing .queued p
  · obtain ⟨p, hp⟩ := h
    rw [Slot.returned_of_waiting hp]
    exact Slot.returned_of_not_waiting p.restored_queuedProbes
  · have hne : ∀ p, r.state ≠ .probing .queued p := fun p hp => h ⟨p, hp⟩
    rw [Slot.returned_of_ne hne, Slot.returned_of_ne hne]

theorem State.returnProbe_of_waiting {s : State} {i : Fin 16} {p : PriorState}
    (h : (s.slot i).state = .probing .queued p) : s.returnProbe i = s.changeSlot i (s.slot i).returned .reset := by
  rw [Slot.returned_of_waiting h]
  unfold State.returnProbe
  rw [h]

theorem State.returnProbe_of_ne {s : State} {i : Fin 16} (h : ∀ p, (s.slot i).state ≠ .probing .queued p) :
    s.returnProbe i = s := by
  unfold State.returnProbe
  split
  · next p hst => exact absurd hst (h p)
  · rfl

theorem State.returnProbe_slot (s : State) (i j : Fin 16) :
    (s.returnProbe i).slot j = if j = i then (s.slot i).returned else s.slot j := by
  by_cases h : ∃ p, (s.slot i).state = .probing .queued p
  · obtain ⟨p, hp⟩ := h
    rw [State.returnProbe_of_waiting hp, s.changeSlot_slot i j]
  · have hne : ∀ p, (s.slot i).state ≠ .probing .queued p := fun p hp => h ⟨p, hp⟩
    rw [State.returnProbe_of_ne hne, Slot.returned_of_ne hne]
    split
    · next hj => rw [hj]
    · rfl

theorem State.returnProbes_slot (is : List (Fin 16)) (s : State) (j : Fin 16) :
    (is.foldl State.returnProbe s).slot j = if j ∈ is then (s.slot j).returned else s.slot j := by
  induction is generalizing s with
  | nil => rfl
  | cons i is ih =>
    rw [List.foldl_cons, ih, s.returnProbe_slot i j]
    by_cases h : j = i
    · subst h
      simp [Slot.returned_returned]
    · simp [h]

/-- Under its law the probe queue names the slots that are returned, so every slot is as if returned. -/
theorem State.resetProbes_slot {s : State} (hs : s.ProbeLaw) (j : Fin 16) :
    s.resetProbes.slot j = (s.slot j).returned := by
  refine (State.returnProbes_slot s.probes { s with probes := [] } j).trans ?_
  split
  · rfl
  · next h =>
    have hcount := (s.probeLaw_iff.1 hs j).symm.trans (List.count_eq_zero.2 h)
    exact (Slot.returned_of_not_waiting hcount).symm

/-- Whether the emission test of SLOT_CHANGE passes on a link whose sent flag is clear (R148). -/
def State.tells (s : State) (m : Link) : Bool := (s.port m).up && enabledIn (s.port m).enables .slotChange

/-- SLOT_CHANGE is LATCHED, and each link that can be told has been told. -/
structure State.Told (s : State) (count : Nat) (d : Detail) : Prop where
  latch : (s.kind .slotChange).latch = .latched (byte count) d
  sent : ∀ m, (s.kind .slotChange).sent.get m = s.tells m

theorem riseCount_byte {c : Nat} (h : c < 255) : riseCount (byte c) = byte (c + 1) := by
  have hne : byte c ≠ 255 := by
    intro e
    have hnat : (byte c).toNat = 255 := congrArg BitVec.toNat e
    simp only [byte, BitVec.toNat_ofNat] at hnat
    omega
  unfold riseCount
  rw [if_neg hne]
  exact (BitVec.ofNat_add c 1).symm

/-- The detail that a change of a slot's record raises (R131). -/
def State.slotDetail (s : State) (i : Fin 16) (r : Slot) (cause : ChangeCause) : Detail :=
  .slotChange i (s.slot i).state.name r.state.name cause r.identity

theorem State.changeSlot_eq (s : State) (i : Fin 16) (r : Slot) (cause : ChangeCause) :
    s.changeSlot i r cause = (s.updSlot i fun _ => r).raise (s.slotDetail i r cause) := rfl

section
variable (s : State) (i : Fin 16) (r : Slot) (cause : ChangeCause)

theorem State.changeSlot_kind_of_ne {k : NoticeKind} (h : k ≠ .slotChange) :
    (s.changeSlot i r cause).kind k = s.kind k := by
  rw [s.changeSlot_eq i r cause]
  exact State.raise_kind_of_ne _ h

theorem State.changeSlot_latch : ((s.changeSlot i r cause).kind .slotChange).latch =
    (s.kind .slotChange).latch.raise (s.slotDetail i r cause) :=
  (s.updSlot i fun _ => r).raise_latch (s.slotDetail i r cause)

variable {c : Byte} {d : Detail}

/-- The emission test of the raise on one link. -/
theorem State.changeSlot_notice (h : (s.kind .slotChange).latch.raise (s.slotDetail i r cause) = .latched c d)
    (m : Link) :
    ((s.updSlot i fun _ => r).latched (s.slotDetail i r cause)).notice? .slotChange m =
      if s.tells m = true ∧ (s.kind .slotChange).sent.get m = false then some (.notice .slotChange c d) else none := by
  refine ((s.updSlot i fun _ => r).latched_notice? (d := s.slotDetail i r cause) m h).trans ?_
  unfold State.tells
  simp only [Bool.and_eq_true, and_assoc]
  rfl

theorem State.changeSlot_port (h : (s.kind .slotChange).latch.raise (s.slotDetail i r cause) = .latched c d)
    (m : Link) :
    (s.changeSlot i r cause).port m = { s.port m with outbound := (s.port m).outbound ++
      (if s.tells m = true ∧ (s.kind .slotChange).sent.get m = false then [.notice .slotChange c d] else []) } := by
  refine ((s.updSlot i fun _ => r).raise_port (s.slotDetail i r cause) m).trans ?_
  rw [show (s.slotDetail i r cause).kind = .slotChange from rfl, s.changeSlot_notice i r cause h m]
  split <;> rfl

theorem State.changeSlot_sent (h : (s.kind .slotChange).latch.raise (s.slotDetail i r cause) = .latched c d)
    (m : Link) :
    ((s.changeSlot i r cause).kind .slotChange).sent.get m = ((s.kind .slotChange).sent.get m || s.tells m) := by
  refine ((s.updSlot i fun _ => r).raise_sent (s.slotDetail i r cause) m).trans ?_
  rw [show (s.slotDetail i r cause).kind = .slotChange from rfl, s.changeSlot_notice i r cause h m]
  have hkind : (s.updSlot i fun _ => r).kind .slotChange = s.kind .slotChange := rfl
  rw [hkind]
  cases (s.kind .slotChange).sent.get m <;> cases s.tells m <;> rfl

theorem State.changeSlot_tells (h : (s.kind .slotChange).latch.raise (s.slotDetail i r cause) = .latched c d)
    (m : Link) :
    (s.changeSlot i r cause).tells m = s.tells m := by
  unfold State.tells
  rw [s.changeSlot_port i r cause h m]

end

/-- The frames that tell a link of the first change (R148). -/
def State.tidings (s : State) (m : Link) (d : Detail) : List OutFrame :=
  if s.tells m = true then [.notice .slotChange 1 d] else []

/-- The first change latches SLOT_CHANGE, and is told to each link that can be told. -/
theorem State.told_of_first {s : State} (h : s.kind .slotChange = .reset) (i : Fin 16) (r : Slot)
    (cause : ChangeCause) :
    (s.changeSlot i r cause).Told 1 (s.slotDetail i r cause) ∧
      ∀ m, (s.changeSlot i r cause).port m =
        { s.port m with outbound := (s.port m).outbound ++ s.tidings m (s.slotDetail i r cause) } := by
  have hlatch : (s.kind .slotChange).latch.raise (s.slotDetail i r cause) = .latched 1 (s.slotDetail i r cause) := by
    rw [h]
    rfl
  have hsent (m : Link) : (s.kind .slotChange).sent.get m = false := by
    rw [h]
    cases m <;> rfl
  refine ⟨⟨(s.changeSlot_latch i r cause).trans hlatch, fun m => ?_⟩, fun m => ?_⟩
  · rw [s.changeSlot_sent i r cause hlatch m, s.changeSlot_tells i r cause hlatch m, hsent m, Bool.false_or]
  · rw [s.changeSlot_port i r cause hlatch m, hsent m]
    simp only [and_true]
    rfl

/-- A later change raises the count alone. -/
theorem State.Told.changeSlot {s : State} {c : Nat} {d : Detail} (hs : s.Told c d) (hc : c < 255) (i : Fin 16)
    (r : Slot)
    (cause : ChangeCause) :
    (s.changeSlot i r cause).Told (c + 1) d ∧ ∀ m, (s.changeSlot i r cause).port m = s.port m := by
  obtain ⟨hl, hsent⟩ := hs
  have hlatch : (s.kind .slotChange).latch.raise (s.slotDetail i r cause) = .latched (byte (c + 1)) d := by
    rw [hl, ← riseCount_byte hc]
    rfl
  refine ⟨⟨(s.changeSlot_latch i r cause).trans hlatch, fun m => ?_⟩, fun m => ?_⟩
  · rw [s.changeSlot_sent i r cause hlatch m, s.changeSlot_tells i r cause hlatch m, hsent m, Bool.or_self]
  · have hnever : ¬(s.tells m = true ∧ s.tells m = false) := fun ⟨ht, hf⟩ => by simp [ht] at hf
    rw [s.changeSlot_port i r cause hlatch m, hsent m, if_neg hnever, List.append_nil]

/-- The probe queue of a state under its law: each slot once, and each of them waiting for its probe. -/
structure State.Waiting (s : State) (is : List (Fin 16)) : Prop where
  nodup : is.Nodup
  waits : ∀ i ∈ is, ∃ p, (s.slot i).state = .probing .queued p

theorem State.ProbeLaw.waiting {s : State} (hs : s.ProbeLaw) : s.Waiting s.probes := by
  have hcount := s.probeLaw_iff.1 hs
  have hone (i : Fin 16) : (s.slot i).state.queuedProbes ≤ 1 := SlotState.queuedProbes_le_one _
  refine ⟨List.nodup_iff_count_le_one.2 fun i => (hcount i).trans_le (hone i), fun i hi => ?_⟩
  by_contra hnone
  have hzero : (s.slot i).state.queuedProbes = 0 := by
    unfold SlotState.queuedProbes
    split
    · next p hp => exact absurd ⟨p, hp⟩ hnone
    · rfl
  rw [← hcount i, List.count_eq_zero] at hzero
  exact hzero hi

theorem State.Waiting.tail {s : State} {i : Fin 16} {is : List (Fin 16)} (h : s.Waiting (i :: is)) :
    (s.returnProbe i).Waiting is := by
  obtain ⟨hnodup, hwaits⟩ := h
  rw [List.nodup_cons] at hnodup
  obtain ⟨hnew, hnodup⟩ := hnodup
  refine ⟨hnodup, fun j hj => ?_⟩
  rw [s.returnProbe_slot i j, if_neg fun e => hnew (by rw [← e]; exact hj)]
  exact hwaits j (List.mem_cons_of_mem i hj)

theorem State.returnProbes_kind_of_ne (is : List (Fin 16)) (s : State) {k : NoticeKind} (h : k ≠ .slotChange) :
    (is.foldl State.returnProbe s).kind k = s.kind k := by
  refine List.foldlRecOn is State.returnProbe (motive := fun u : State => u.kind k = s.kind k) rfl fun u hu i _ => ?_
  unfold State.returnProbe
  split
  · exact (u.changeSlot_kind_of_ne i _ _ h).trans hu
  · exact hu

/-- The slots after the first raise the count, and nothing more is formed (R146, R148). -/
theorem State.Told.returnProbes {is : List (Fin 16)} {s : State} {c : Nat} {d : Detail} (hs : s.Told c d)
    (h : s.Waiting is) (hc : c + is.length ≤ 255) :
    (is.foldl State.returnProbe s).Told (c + is.length) d ∧ ∀ m, (is.foldl State.returnProbe s).port m = s.port m := by
  induction is generalizing s c with
  | nil => exact ⟨hs, fun _ => rfl⟩
  | cons i is ih =>
    obtain ⟨p, hp⟩ := h.waits i List.mem_cons_self
    have htail := h.tail
    rw [List.length_cons] at hc ⊢
    rw [State.returnProbe_of_waiting hp] at htail
    rw [List.foldl_cons, State.returnProbe_of_waiting hp]
    obtain ⟨htold, hports⟩ := hs.changeSlot (by omega) i (s.slot i).returned .reset
    obtain ⟨htold', hports'⟩ := ih htold htail (by omega)
    refine ⟨?_, fun m => (hports' m).trans (hports m)⟩
    rw [show c + (is.length + 1) = c + 1 + is.length by omega]
    exact htold'

/-! ### The gate reset as a whole (R178) -/

/-- The detail with which step 4 returns a slot (R142). -/
def State.returnDetail (s : State) (i : Fin 16) : Detail := s.slotDetail i (s.slot i).returned .reset

/-- The record of SLOT_CHANGE after step 4, from CLEAR. -/
def State.probesRecord (s : State) : KindRecord :=
  match s.probes with
  | [] => .reset
  | i :: _ => ⟨.latched (byte s.probes.length) (s.returnDetail i), ⟨s.tells .l0, s.tells .l1⟩⟩

/-- What step 4 forms on a link. -/
def State.probesTidings (s : State) (m : Link) : List OutFrame :=
  match s.probes with
  | [] => []
  | i :: _ => s.tidings m (s.returnDetail i)

theorem Port.append_nil (p : Port) : { p with outbound := p.outbound ++ [] } = p := by
  rw [List.append_nil]

theorem State.Told.kind_eq {s : State} {c : Nat} {d : Detail} (h : s.Told c d) :
    s.kind .slotChange = ⟨.latched (byte c) d, ⟨s.tells .l0, s.tells .l1⟩⟩ := by
  obtain ⟨hlatch, hsent⟩ := h
  have hsents : (s.kind .slotChange).sent = ⟨s.tells .l0, s.tells .l1⟩ :=
    PerLink.ext_get _ _ fun m => (hsent m).trans (by cases m <;> rfl)
  rw [← hlatch, ← hsents]

theorem State.tells_congr {s t : State} {m : Link} (hup : (t.port m).up = (s.port m).up)
    (henables : (t.port m).enables = (s.port m).enables) : t.tells m = s.tells m := by
  unfold State.tells
  rw [hup, henables]

/-- Step 4 on a state whose notices are all CLEAR (R142, R155). -/
theorem State.resetProbes_notices {s : State} (hs : s.ProbeLaw) (h : s.kind .slotChange = .reset) :
    s.resetProbes.kind .slotChange = s.probesRecord ∧
      ∀ m, s.resetProbes.port m = { s.port m with outbound := (s.port m).outbound ++ s.probesTidings m } := by
  unfold State.resetProbes State.probesRecord State.probesTidings
  have hwaiting := hs.waiting
  cases hp : s.probes with
  | nil => exact ⟨h, fun m => (s.port m).append_nil.symm⟩
  | cons i is =>
    rw [hp] at hwaiting
    have hstart : ({ s with probes := [] } : State).Waiting (i :: is) := ⟨hwaiting.nodup, hwaiting.waits⟩
    obtain ⟨p, hp'⟩ := hwaiting.waits i List.mem_cons_self
    have hlength : (i :: is).length ≤ 16 := hwaiting.nodup.length_le_card.trans (by simp)
    have htail := hstart.tail
    have hreturn : ({ s with probes := [] } : State).returnProbe i =
        ({ s with probes := [] } : State).changeSlot i (s.slot i).returned .reset :=
      State.returnProbe_of_waiting (s := { s with probes := [] }) hp'
    rw [hreturn] at htail
    rw [List.foldl_cons, hreturn]
    obtain ⟨hfirst, hports⟩ := State.told_of_first (s := { s with probes := [] }) h i (s.slot i).returned .reset
    obtain ⟨htold, hports'⟩ := hfirst.returnProbes htail (by rw [List.length_cons] at hlength; omega)
    have hport (m : Link) := (hports' m).trans (hports m)
    refine ⟨?_, hport⟩
    have htells (m : Link) : (is.foldl State.returnProbe
        (({ s with probes := [] } : State).changeSlot i (s.slot i).returned .reset)).tells m = s.tells m :=
      State.tells_congr (by rw [hport m]; rfl) (by rw [hport m]; rfl)
    rw [htold.kind_eq, htells .l0, htells .l1, List.length_cons, Nat.add_comm 1 is.length]
    rfl

/-- The state of a gate reset before its step 4. -/
def State.flushedWork (s : State) : State := s.flushDirect.clearNotices.resetWork

/-- The arbiter's pointer names WQ0 (R178). -/
def State.rewound (s : State) : State := { s with pointer := .wq0 }

theorem State.gateReset_eq (s : State) : s.gateReset = s.flushedWork.resetProbes.rewound := rfl

section
variable (s : State)

theorem State.rewound_port (m : Link) : s.rewound.port m = s.port m := rfl

theorem State.rewound_slot (i : Fin 16) : s.rewound.slot i = s.slot i := rfl

theorem State.rewound_kind (k : NoticeKind) : s.rewound.kind k = s.kind k := rfl

theorem State.rewound_pointer : s.rewound.pointer = .wq0 := rfl

theorem State.rewound_probes : s.rewound.probes = s.probes := rfl

theorem State.rewound_flushed : s.rewound.flushed = s.flushed := rfl

theorem State.clearNotices_kind (k : NoticeKind) : s.clearNotices.kind k = .reset := Vector.getElem_replicate _

theorem State.clearNotices_port (m : Link) : s.clearNotices.port m = s.port m := rfl

theorem State.clearNotices_postedCount (m : Link) : s.clearNotices.postedCount m = s.postedCount m := rfl

theorem State.resetWork_slots : s.resetWork.slots = s.slots :=
  State.resetWork_keeps State.slots (fun _ _ => rfl) (fun _ _ _ => rfl) (fun _ _ => rfl) (fun _ _ => rfl) s

theorem State.resetWork_probes : s.resetWork.probes = s.probes :=
  State.resetWork_keeps State.probes (fun _ _ => rfl) (fun _ _ _ => rfl) (fun _ _ => rfl) (fun _ _ => rfl) s

theorem State.resetWork_kind (k : NoticeKind) : s.resetWork.kind k = s.kind k :=
  State.resetWork_keeps (·.kind k) (fun _ _ => rfl) (fun _ _ _ => rfl) (fun _ _ => rfl) (fun _ _ => rfl) s

theorem State.flushDirect_slots : s.flushDirect.slots = s.slots :=
  State.flushDirect_keeps State.slots (fun _ _ _ => rfl) (fun _ _ => rfl) s

theorem State.flushDirect_probes : s.flushDirect.probes = s.probes :=
  State.flushDirect_keeps State.probes (fun _ _ _ => rfl) (fun _ _ => rfl) s

theorem State.flushDirect_flushed : s.flushDirect.flushed = s.flushed :=
  State.flushDirect_keeps State.flushed (fun _ _ _ => rfl) (fun _ _ => rfl) s

theorem State.flushDirect_postedCount (m : Link) : s.flushDirect.postedCount m = s.postedCount m :=
  State.flushDirect_keeps (·.postedCount m) (fun _ _ _ => rfl) (fun _ _ => rfl) s

theorem State.flushedWork_slot (i : Fin 16) : s.flushedWork.slot i = s.slot i := by
  unfold State.flushedWork State.slot
  rw [State.resetWork_slots, State.clearNotices_slots, State.flushDirect_slots]

theorem State.flushedWork_probes : s.flushedWork.probes = s.probes := by
  unfold State.flushedWork
  rw [State.resetWork_probes, State.clearNotices_probes, State.flushDirect_probes]

theorem State.flushedWork_kind (k : NoticeKind) : s.flushedWork.kind k = .reset := by
  unfold State.flushedWork
  rw [State.resetWork_kind, State.clearNotices_kind]

theorem State.flushedWork_port (m : Link) : s.flushedWork.port m =
    if s.postedCount m ≠ 0 then
      ((s.port m).offer (ticketNumbers.filterMap (s.flushAnswer m))).report (s.postedCount m)
    else (s.port m).offer (ticketNumbers.filterMap (s.flushAnswer m)) := by
  unfold State.flushedWork
  rw [State.resetWork_port, State.clearNotices_postedCount, State.clearNotices_port, s.flushDirect_postedCount m,
    s.flushDirect_port m]

theorem State.flushedWork_flushed (m : Link) :
    s.flushedWork.flushed.get m = riseBy (s.postedCount m) (s.flushed.get m) := by
  unfold State.flushedWork
  rw [State.resetWork_flushed, State.clearNotices_postedCount, State.clearNotices_flushed, s.flushDirect_postedCount m,
    s.flushDirect_flushed]

end

theorem State.flushedWork_probeLaw {s : State} (hs : s.ProbeLaw) : s.flushedWork.ProbeLaw := by
  intro i
  rw [s.flushedWork_probes, s.flushedWork_slot i]
  exact hs i

theorem Port.up_report (p : Port) (c : Nat) : (p.report c).up = p.up := by
  unfold Port.report Port.form
  split <;> rfl

theorem Port.enables_report (p : Port) (c : Nat) : (p.report c).enables = p.enables := by
  unfold Port.report Port.form
  split <;> rfl

theorem Port.offer_enables (p : Port) (fs : List OutFrame) : (p.offer fs).enables = p.enables := by
  unfold Port.offer
  split <;> rfl

theorem State.flushedWork_tells (s : State) (m : Link) : s.flushedWork.tells m = s.tells m := by
  have hport := s.flushedWork_port m
  refine State.tells_congr ?_ ?_ <;> rw [hport] <;> split
  · rw [Port.up_report, Port.offer_up]
  · rw [Port.offer_up]
  · rw [Port.enables_report, Port.offer_enables]
  · rw [Port.offer_enables]

theorem State.flushedWork_returnDetail (s : State) (i : Fin 16) : s.flushedWork.returnDetail i = s.returnDetail i := by
  unfold State.returnDetail State.slotDetail
  rw [s.flushedWork_slot i]

theorem State.flushedWork_probesRecord (s : State) : s.flushedWork.probesRecord = s.probesRecord := by
  unfold State.probesRecord
  simp only [s.flushedWork_probes, s.flushedWork_tells, s.flushedWork_returnDetail]

theorem State.flushedWork_probesTidings (s : State) (m : Link) : s.flushedWork.probesTidings m = s.probesTidings m := by
  unfold State.probesTidings State.tidings
  simp only [s.flushedWork_probes, s.flushedWork_tells, s.flushedWork_returnDetail]

section
variable (s : State)

theorem State.gateReset_ticket (k : Fin 24) : s.gateReset.ticket k = (s.ticket k).gateReset :=
  (State.read_of_ledger s.gateReset_ledger fun u => u.ticket k).trans (s.flushDirect_resetWork_ticket k)

theorem State.resetWork_queues : s.resetWork.queues = ⟨[], []⟩ := congrArg Ledger.queues s.resetWork_ledger

theorem State.gateReset_queues : s.gateReset.queues = ⟨[], []⟩ :=
  (State.read_of_ledger s.gateReset_ledger State.queues).trans s.flushDirect.resetWork_queues

theorem State.resetProbes_probes_nil : s.resetProbes.probes = [] :=
  State.returnProbes_keeps State.probes (fun _ _ => rfl) (fun _ _ _ => rfl) (fun _ _ => rfl) _ _

theorem State.resetProbes_flushed_eq : s.resetProbes.flushed = s.flushed :=
  State.resetProbes_keeps State.flushed (fun _ _ => rfl) (fun _ _ => rfl) (fun _ _ _ => rfl) (fun _ _ => rfl) s

theorem State.resetProbes_kind_of_ne {k : NoticeKind} (h : k ≠ .slotChange) : s.resetProbes.kind k = s.kind k :=
  State.returnProbes_kind_of_ne s.probes { s with probes := [] } h

theorem State.gateReset_probes : s.gateReset.probes = [] := by
  rw [s.gateReset_eq, State.rewound_probes, State.resetProbes_probes_nil]

theorem State.gateReset_flushed (m : Link) :
    s.gateReset.flushed.get m = riseBy (s.postedCount m) (s.flushed.get m) := by
  rw [s.gateReset_eq, State.rewound_flushed, State.resetProbes_flushed_eq, s.flushedWork_flushed m]

theorem State.gateReset_kind_of_ne {k : NoticeKind} (h : k ≠ .slotChange) : s.gateReset.kind k = .reset := by
  rw [s.gateReset_eq, State.rewound_kind, State.resetProbes_kind_of_ne _ h, s.flushedWork_kind k]

variable {s}

theorem State.gateReset_slot (hs : s.ProbeLaw) (i : Fin 16) : s.gateReset.slot i = (s.slot i).returned := by
  rw [s.gateReset_eq, State.rewound_slot, State.resetProbes_slot (State.flushedWork_probeLaw hs) i,
    s.flushedWork_slot i]

theorem State.gateReset_slotChange (hs : s.ProbeLaw) : s.gateReset.kind .slotChange = s.probesRecord := by
  obtain ⟨h, _⟩ := State.resetProbes_notices (State.flushedWork_probeLaw hs) (s.flushedWork_kind _)
  rw [s.gateReset_eq, State.rewound_kind, h, s.flushedWork_probesRecord]

theorem State.gateReset_port (hs : s.ProbeLaw) (m : Link) : s.gateReset.port m =
    { s.flushedWork.port m with outbound := (s.flushedWork.port m).outbound ++ s.probesTidings m } := by
  obtain ⟨_, h⟩ := State.resetProbes_notices (State.flushedWork_probeLaw hs) (s.flushedWork_kind _)
  rw [s.gateReset_eq, State.rewound_port, h m, s.flushedWork_probesTidings m]

theorem State.tidings_of_down {m : Link} (h : (s.port m).up = false) (d : Detail) : s.tidings m d = [] := by
  unfold State.tidings State.tells
  simp [h]

theorem State.probesTidings_of_down {m : Link} (h : (s.port m).up = false) : s.probesTidings m = [] := by
  unfold State.probesTidings
  split
  · rfl
  · exact State.tidings_of_down h _

/-- A port after a gate reset: the answers, one credit report and the one notice (R178). -/
theorem State.gateReset_port_eq (hs : s.ProbeLaw) (m : Link) : s.gateReset.port m = { s.port m with
    granted := if (s.port m).up = true ∧ s.postedCount m ≠ 0 then
      (s.port m).granted + ((s.port m).owed + s.postedCount m) else (s.port m).granted
    owed := if (s.port m).up = true ∧ s.postedCount m ≠ 0 then 0 else (s.port m).owed
    outbound := (s.port m).outbound ++
      (if (s.port m).up = true then
        ticketNumbers.filterMap (s.flushAnswer m) ++
          (if s.postedCount m ≠ 0 then [.credit ((s.port m).owed + s.postedCount m)] else []) ++ s.probesTidings m
      else []) } := by
  rw [State.gateReset_port hs m, s.flushedWork_port m, Port.offer_report]
  by_cases hup : (s.port m).up = true
  · have hnot : ¬(s.port m).up = false := by simp [hup]
    rw [if_neg hnot]
    by_cases hc : s.postedCount m = 0
    · simp only [hup, hc, if_true, ne_eq, not_true_eq_false, and_false, if_false, List.append_nil, List.append_assoc]
    · simp only [hup, hc, if_false, ne_eq, not_false_eq_true, and_self, if_true, List.append_assoc]
  · have hdown : (s.port m).up = false := by simpa using hup
    simp only [hdown, State.probesTidings_of_down hdown, if_true, Bool.false_eq_true, false_and, if_false,
      List.append_nil]

theorem State.gateReset_up (m : Link) : (s.gateReset.port m).up = (s.port m).up :=
  State.gateReset_keeps (fun s => (s.port m).up) (fun s n f => s.form_up n m f) (fun s n c => s.report_up_eq n m c)
    (fun _ _ => rfl) (fun _ _ => rfl) (fun _ _ => rfl) (fun _ _ => rfl) (fun _ _ => rfl) (fun _ _ => rfl)
    (fun _ _ => rfl) s

end

/-! ### GATE_RESET -/

theorem exec_gateReset {s : State} {n : Link} (tag : Byte) (hserves : s.serves n) (hlease : s.holdsLease n = true) :
    exec (.gateReset n tag []) s = .next ((s.counted n).gateReset.sent n [.mgmtReply tag 0x52 .ok []]) := by
  refine Arrives.exec_sent (owner := ownerGateReset) (fun _ => rfl) hserves rfl (fun _ => hlease) rfl ?_
  rw [State.gateReset_up, s.counted_up n n]
  exact hserves.2

theorem State.sent_ticket (s : State) (n : Link) (fs : List OutFrame) (k : Fin 24) :
    (s.sent n fs).ticket k = s.ticket k := rfl

theorem State.sent_slot (s : State) (n : Link) (fs : List OutFrame) (i : Fin 16) :
    (s.sent n fs).slot i = s.slot i := rfl

theorem State.sent_port (s : State) (n m : Link) (fs : List OutFrame) : (s.sent n fs).port m =
    if m = n then { s.port n with outbound := (s.port n).outbound ++ fs } else s.port m := PerLink.get_set _ _ _ _

/-- A state with every field that a gate reset writes given anew. -/
def State.withGate (s : State) (ports : PerLink Port) (tickets : Vector Ticket 24) (queues : PerLink (List WorkEntry))
    (flushed : PerLink Counter) (probes : List (Fin 16)) (pointer : Source) (slots : Vector Slot 16)
    (kinds : Vector KindRecord 8) : State :=
  { s with ports := ports, tickets := tickets, queues := queues, flushed := flushed, probes := probes,
           pointer := pointer, slots := slots, kinds := kinds }

theorem State.gateReset_withGate (s : State) (p : PerLink Port) (x : Vector Ticket 24) (q : PerLink (List WorkEntry))
    (f : PerLink Counter) (is : List (Fin 16)) (a : Source) (r : Vector Slot 16) (k : Vector KindRecord 8) :
    s.gateReset.withGate p x q f is a r k = s.withGate p x q f is a r k :=
  State.gateReset_keeps (·.withGate p x q f is a r k) (fun _ _ _ => rfl) (fun _ _ _ => rfl) (fun _ _ => rfl)
    (fun _ _ => rfl) (fun _ _ => rfl) (fun _ _ => rfl) (fun _ _ => rfl) (fun _ _ => rfl) (fun _ _ => rfl) s

theorem State.eq_withGate {s t : State}
    (h : ∀ p x q f is a r k, t.withGate p x q f is a r k = s.withGate p x q f is a r k) :
    t = s.withGate t.ports t.tickets t.queues t.flushed t.probes t.pointer t.slots t.kinds :=
  h t.ports t.tickets t.queues t.flushed t.probes t.pointer t.slots t.kinds

theorem State.sent_withGate (s : State) (n : Link) (fs : List OutFrame) (p : PerLink Port) (x : Vector Ticket 24)
    (q : PerLink (List WorkEntry)) (f : PerLink Counter) (is : List (Fin 16)) (a : Source) (r : Vector Slot 16)
    (k : Vector KindRecord 8) : (s.sent n fs).withGate p x q f is a r k = s.withGate p x q f is a r k := rfl

theorem State.counted_withGate (s : State) (n : Link) (p : PerLink Port) (x : Vector Ticket 24)
    (q : PerLink (List WorkEntry)) (f : PerLink Counter) (is : List (Fin 16)) (a : Source) (r : Vector Slot 16)
    (k : Vector KindRecord 8) : (s.counted n).withGate p x q f is a r k = s.withGate p x q f is a r k := rfl

/-- What step 4 tells of a slot that waits for its probe (R131, R142). -/
theorem State.returnDetail_of_waiting {s : State} {i : Fin 16} {p : PriorState}
    (h : (s.slot i).state = .probing .queued p) : s.returnDetail i = .slotChange i .probing
      (match (s.slot i).state with
        | .probing _ (.fenced _) => .fenced
        | _ => .offline) .reset (s.slot i).identity := by
  unfold State.returnDetail State.slotDetail
  rw [Slot.returned_of_waiting h, h]
  cases p <;> rfl

theorem Slot.returned_eq (r : Slot) : r.returned = match r.state with
    | .probing .queued .offline => { r with state := .offline }
    | .probing .queued (.fenced c) => { r with state := .fenced c }
    | _ => r := by
  unfold Slot.returned
  cases r.state with
  | probing st p => cases st <;> cases p <;> rfl
  | offline | online | fenced => rfl

theorem State.counted_tells (s : State) (n m : Link) : (s.counted n).tells m = s.tells m := by
  refine State.tells_congr (s.counted_up n m) ?_
  rw [s.counted_port n m]
  split
  · next h => rw [h]
  · rfl

theorem State.probesRecord_nil {s : State} (h : s.probes = []) : s.probesRecord = .reset := by
  unfold State.probesRecord
  rw [h]

theorem State.probesRecord_cons {s : State} {i : Fin 16} {is : List (Fin 16)} (h : s.probes = i :: is) :
    s.probesRecord = ⟨.latched (byte (i :: is).length) (s.returnDetail i), ⟨s.tells .l0, s.tells .l1⟩⟩ := by
  unfold State.probesRecord
  rw [h]

theorem State.probesTidings_nil {s : State} (h : s.probes = []) (m : Link) : s.probesTidings m = [] := by
  unfold State.probesTidings
  rw [h]

theorem State.probesTidings_cons {s : State} {i : Fin 16} {is : List (Fin 16)} (h : s.probes = i :: is) (m : Link) :
    s.probesTidings m = if s.tells m = true then [.notice .slotChange 1 (s.returnDetail i)] else [] := by
  unfold State.probesTidings
  rw [h]
  rfl

section
variable (s : State) (n : Link)

theorem State.counted_returnDetail (i : Fin 16) : (s.counted n).returnDetail i = s.returnDetail i := rfl

theorem State.counted_probesRecord : (s.counted n).probesRecord = s.probesRecord := by
  have hprobes : (s.counted n).probes = s.probes := rfl
  unfold State.probesRecord
  simp only [hprobes, s.counted_tells, s.counted_returnDetail]

theorem State.counted_probesTidings (m : Link) : (s.counted n).probesTidings m = s.probesTidings m := by
  have hprobes : (s.counted n).probes = s.probes := rfl
  unfold State.probesTidings State.tidings
  simp only [hprobes, s.counted_tells, s.counted_returnDetail]

/-- A port after a gate reset on a counted frame, over the state before the frame. -/
theorem State.counted_gateReset_port (hs : s.ProbeLaw) (m : Link) : (s.counted n).gateReset.port m = { s.port m with
    framesTaken := if m = n then rise (s.port m).framesTaken else (s.port m).framesTaken
    granted := if (s.port m).up = true ∧ s.postedCount m ≠ 0 then
      (s.port m).granted + ((s.port m).owed + s.postedCount m) else (s.port m).granted
    owed := if (s.port m).up = true ∧ s.postedCount m ≠ 0 then 0 else (s.port m).owed
    outbound := (s.port m).outbound ++
      (if (s.port m).up = true then
        ticketNumbers.filterMap (s.flushAnswer m) ++
          (if s.postedCount m ≠ 0 then [.credit ((s.port m).owed + s.postedCount m)] else []) ++ s.probesTidings m
      else []) } := by
  have hlaw : (s.counted n).ProbeLaw := hs
  have hcount : (s.counted n).postedCount m = s.postedCount m := rfl
  have hanswers : (s.counted n).flushAnswer m = s.flushAnswer m := rfl
  rw [State.gateReset_port_eq hlaw m, hcount, hanswers, s.counted_probesTidings n m, s.counted_port n m]
  by_cases h : m = n
  · subst h
    simp only [if_true]
  · simp only [h, if_false]

end

/-- Settles O55: the four steps of the reset, each read off the state in which the frame has been counted. -/
theorem gateResetClearsTheTraffic : Obligations.GateResetClearsTheTraffic := by
  intro s n tag hserves hlease hs returned told
  have hlaw : (s.counted n).ProbeLaw := hs
  have hreturned {i : Fin 16} {is : List (Fin 16)} (hp : s.probes = i :: is) : s.returnDetail i = returned i := by
    obtain ⟨p, hst⟩ := hs.waiting.waits i (by rw [hp]; exact List.mem_cons_self)
    exact State.returnDetail_of_waiting hst
  refine ⟨_, exec_gateReset tag hserves hlease, fun k => ?_, ?_, ?_, ?_, fun m => ?_, fun i => ?_,
    fun k hk => ?_, ?_, fun m => ?_, ?_⟩
  · have hticket : (s.counted n).ticket k = s.ticket k := rfl
    rw [State.sent_ticket, State.gateReset_ticket, hticket]
    unfold Ticket.gateReset
    cases (s.ticket k).st <;> rfl
  · rw [State.sent_queues, State.gateReset_queues]
  · rw [State.sent_probes, State.gateReset_probes]
  · rw [State.sent_pointer, State.gateReset_eq, State.rewound_pointer]
  · have hcount : (s.counted n).postedCount m = s.postedCount m := rfl
    have hflushed : (s.counted n).flushed = s.flushed := rfl
    rw [State.sent_flushed, State.gateReset_flushed, hcount, hflushed]
  · rw [State.sent_slot, State.gateReset_slot hlaw i]
    exact (s.slot i).returned_eq
  · rw [State.sent_kind]
    exact (s.counted n).gateReset_kind_of_ne hk
  · rw [State.sent_kind]
    refine ((State.gateReset_slotChange hlaw).trans (s.counted_probesRecord n)).trans ?_
    cases hp : s.probes with
    | nil => exact State.probesRecord_nil hp
    | cons i is =>
      have hdetail := hreturned hp
      exact (State.probesRecord_cons hp).trans
        (congrArg (fun d => KindRecord.mk (.latched (byte (i :: is).length) d) ⟨s.tells .l0, s.tells .l1⟩) hdetail)
  · have htidings : s.probesTidings m = match s.probes with
        | [] => []
        | i :: _ => if told m = true then [.notice .slotChange 1 (returned i)] else [] := by
      cases hp : s.probes with
      | nil => exact State.probesTidings_nil hp m
      | cons i is =>
        have hdetail := hreturned hp
        exact (State.probesTidings_cons hp m).trans
          (congrArg (fun d => if s.tells m = true then [OutFrame.notice .slotChange 1 d] else []) hdetail)
    rw [State.sent_port]
    by_cases h : m = n
    · subst h
      rw [if_pos rfl, s.counted_gateReset_port m hs m, htidings]
      simp only [if_true]
      rfl
    · rw [if_neg h, s.counted_gateReset_port n hs m, htidings]
      simp only [h, if_false, List.append_nil]
      rfl
  · refine State.eq_withGate fun p x q f is a r k => ?_
    rw [State.sent_withGate, State.gateReset_withGate, State.counted_withGate]

end Sys2Proof.Machine
